-- ==== Sys2Proof/Word.lean ====
section
/-! DEFINITION. The widths of DSQX (00_scope.md rule R5: `W` = 32, `NCH` = 4, `ADDR_BITS` = 10,
`THR_BITS` = 11) and the 4-tuple indexed by motor channel (10_state.md rule R22). -/

namespace Sys2Proof

/-- A register or bus word, `W` = 32 bits (R5, R9). -/
abbrev Word := BitVec 32

/-- One byte lane of the bus (R63). -/
abbrev Byte := BitVec 8

/-- A byte offset in the register window, `ADDR_BITS` = 10 (R5, R60). -/
abbrev Offset := BitVec 10

/-- A DShot throttle value, `THR_BITS` = 11 (R5). -/
abbrev Throttle := BitVec 11

/-- A 16-bit DShot frame (R163). -/
abbrev Frame := BitVec 16

/-- A motor channel, `NCH` = 4: 0 front-left, 1 front-right, 2 rear-right, 3 rear-left (R22, R116). -/
abbrev Motor := Fin 4

/-- A slot index, `NSLOT` = 17: 0 to 15 are the bit slots, 16 is the reset slot (R5, R41). -/
abbrev SlotIx := Fin 17

/-- One value for each motor channel, in the order of R22. -/
structure Quad (α : Type) where
  m0 : α
  m1 : α
  m2 : α
  m3 : α
  deriving DecidableEq, Repr

/-- The value of channel `m`. -/
def Quad.get {α : Type} (q : Quad α) : Motor → α
  | 0 => q.m0
  | 1 => q.m1
  | 2 => q.m2
  | 3 => q.m3

/-- The tuple with channel `m`'s value replaced. -/
def Quad.set {α : Type} (q : Quad α) (m : Motor) (v : α) : Quad α :=
  match m with
  | 0 => { q with m0 := v }
  | 1 => { q with m1 := v }
  | 2 => { q with m2 := v }
  | 3 => { q with m3 := v }

/-- The tuple of a function of the channel. -/
def Quad.ofFn {α : Type} (f : Motor → α) : Quad α := ⟨f 0, f 1, f 2, f 3⟩

/-- The same value on every channel. -/
def Quad.fill {α : Type} (v : α) : Quad α := ⟨v, v, v, v⟩

/-- A function applied on every channel. -/
def Quad.map {α β : Type} (f : α → β) (q : Quad α) : Quad β := ⟨f q.m0, f q.m1, f q.m2, f q.m3⟩

/-- Whether some channel's value is true. -/
def Quad.any (q : Quad Bool) : Bool := q.m0 || q.m1 || q.m2 || q.m3

/-- Four flags as a nibble, channel `m` in bit `m` (R24). -/
def Quad.nibble (q : Quad Bool) : BitVec 4 :=
  BitVec.ofBool q.m3 ++ BitVec.ofBool q.m2 ++ BitVec.ofBool q.m1 ++ BitVec.ofBool q.m0

end Sys2Proof
end

