-- ==== Sys2Proof/Syntax.lean ====
section
/-! DEFINITION. The whole syntax of DSQX: the commands of spec/opcode_table.json, the register names
of 10_state.md rule R22, the bus transactions of 00_scope.md rule R8, and the host-program lines of
30_encoding.md rules R85 and R86. -/

namespace Sys2Proof

/-- A command (R82): one constructor per row of spec/opcode_table.json. The one decoded operand is
the channel `CH` of `SET_MOTOR` (R81), so every term is well-formed. -/
inductive Instr where
  | nop
  | ctrlStep
  | setThrust
  | setMotor (m : Motor)
  | zeroThrust
  | update
  | updateAll
  | clrInteg
  deriving DecidableEq, Repr

/-- The registers of the map of R22, in its order. -/
inductive Reg where
  | cmd
  | status
  | kpRoll
  | kdRoll
  | kpPitch
  | kdPitch
  | kpYaw
  | kdYaw
  | kiYaw
  | yawILimit
  | mixRoll
  | mixPitch
  | mixYaw
  | thrustMin
  | thrustMax
  | estRoll
  | estPitch
  | estYaw
  | estRollRate
  | estPitchRate
  | estYawRate
  | spRoll
  | spPitch
  | spYaw
  | baseFrac
  | yawInteg
  | thrust (m : Motor)
  | stage (m : Motor)
  | dshotCfg
  | dshotCmp
  | encIn
  | encFrame
  | lastThr (m : Motor)
  | lastFrame (m : Motor)
  | slot (m : Motor) (i : SlotIx)
  deriving DecidableEq, Repr

/-- What the host presents on the bus ports while `bus_valid` is 1 (R8). Every value of every field
can be presented; which are legal is R61, R62 and R64. -/
structure Transaction where
  write : Bool
  addr : Offset
  size : BitVec 2
  wdata : Word
  deriving DecidableEq, Repr

/-- One operation of an assembled host program. -/
inductive HostOp where
  /-- One bus transaction. -/
  | txn (t : Transaction)
  /-- The loop of `wait_idle`: read `STATUS` until its bits [3:0] are 0 (R86). -/
  | pollIdle
  deriving DecidableEq, Repr

/-- A `VALUE` of a host-program line (R85). -/
inductive Value where
  /-- A 32-bit hexadecimal literal. -/
  | hex (w : Word)
  /-- `q(x)` for the real number `x = num / den`. -/
  | q (num : Int) (den : Nat)
  deriving DecidableEq, Repr

/-- A line of a host program (R85) or a pseudo-instruction (R86). -/
inductive HostLine where
  /-- `wr NAME, VALUE`. -/
  | wr (r : Reg) (v : Value)
  /-- `rd NAME`. -/
  | rd (r : Reg)
  /-- A command mnemonic. -/
  | command (i : Instr)
  /-- A transaction written out by offset, as in `W <offset> <value>` and `R <offset>`. -/
  | raw (t : Transaction)
  /-- `stage4 a, b, c, d`. -/
  | stage4 (a b c d : Value)
  /-- `override m, v`. -/
  | override (m : Motor) (v : Value)
  /-- `wait_idle`. -/
  | waitIdle
  /-- `clr_errors`. -/
  | clrErrors
  /-- `disarm`. -/
  | disarm
  deriving DecidableEq, Repr

/-- Whose step comes next. The spec's agents move in an order that only the outside world fixes
(R7, R206, R234); the order is data (log 3). -/
inductive Turn where
  /-- The host issues its next bus operation. -/
  | host
  /-- One `clk` cycle passes without a transaction (R169, R206). -/
  | clk
  /-- Channel `m` takes its free finish step, when `TIMED` is false (R169). -/
  | finish (m : Motor)
  /-- The input `rst` becomes active or inactive (R230). -/
  | rst (active : Bool)
  /-- The input `clk` stops (R213). -/
  | clkStop
  deriving DecidableEq, Repr

end Sys2Proof
end

