-- ==== Sys2Proof/Decode.lean ====
section
/-! DEFINITION. Decoding and encoding of a command word (30_encoding.md rules R80 to R84,
40_command_engine.md rule R100). A command is the 32-bit value of one write to `CMD`; there is no
other format, length or mode (R80), so the decoder reads a word. -/

namespace Sys2Proof

/-- Why a word is illegal (R83). -/
inductive IllegalWord where
  /-- `RSV` ≠ 0. -/
  | reservedBits
  /-- `OPC` ≥ 8. -/
  | reservedOpcode
  /-- `CH` ≠ 0 with `OPC` ≠ 3. -/
  | channelNotZero
  deriving DecidableEq, Repr

/-- What a word decodes to: one command, or a named reason why it is illegal (R100: the decode is
total). -/
inductive Decoded where
  | command (i : Instr)
  | illegal (why : IllegalWord)
  deriving DecidableEq, Repr

/-- `OPC`, bits [3:0] (R80). -/
def opcField (w : Word) : BitVec 4 := w.extractLsb' 0 4

/-- `CH`, bits [5:4] (R80). -/
def chField (w : Word) : BitVec 2 := w.extractLsb' 4 2

/-- `RSV`, bits [31:6] (R80). -/
def rsvField (w : Word) : BitVec 26 := w.extractLsb' 6 26

/-- A command without a channel operand is legal only with `CH` = 0 (R80, R83). -/
def withoutChannel (ch : BitVec 2) (i : Instr) : Decoded :=
  if ch = 0 then .command i else .illegal .channelNotZero

/-- The opcode map of R82; a word that is the word of no row is illegal (R83). -/
def decode (w : Word) : Decoded :=
  if rsvField w ≠ 0 then .illegal .reservedBits
  else
    match (opcField w).toNat with
    | 0 => withoutChannel (chField w) .nop
    | 1 => withoutChannel (chField w) .ctrlStep
    | 2 => withoutChannel (chField w) .setThrust
    | 3 => .command (.setMotor (Fin.ofNat 4 (chField w).toNat))
    | 4 => withoutChannel (chField w) .zeroThrust
    | 5 => withoutChannel (chField w) .update
    | 6 => withoutChannel (chField w) .updateAll
    | 7 => withoutChannel (chField w) .clrInteg
    | _ => .illegal .reservedOpcode

/-- `decode`, as the host of this row asks for it: the low `nbits` bits of `w`, every bit above them
zero. -/
def decodeTableWord (nbits w : Nat) : Option Instr :=
  match decode (BitVec.ofNat 32 (w % 2 ^ nbits)) with
  | .command i => some i
  | .illegal _ => none

/-- The word with the three fields of R80. -/
def commandWord (rsv : BitVec 26) (ch : BitVec 2) (opc : BitVec 4) : Word := rsv ++ ch ++ opc

/-- The opcode of a command (R82). -/
def Instr.opc : Instr → BitVec 4
  | .nop => 0
  | .ctrlStep => 1
  | .setThrust => 2
  | .setMotor _ => 3
  | .zeroThrust => 4
  | .update => 5
  | .updateAll => 6
  | .clrInteg => 7

/-- The channel field of a command: the operand of `SET_MOTOR`, 0 otherwise (R80). -/
def Instr.ch : Instr → BitVec 2
  | .nop => 0
  | .ctrlStep => 0
  | .setThrust => 0
  | .setMotor m => BitVec.ofNat 2 m.val
  | .zeroThrust => 0
  | .update => 0
  | .updateAll => 0
  | .clrInteg => 0

/-- The command word of a command (R82, R85). -/
def encode (i : Instr) : Word := commandWord 0 i.ch i.opc

end Sys2Proof
end

