-- ==== Sys2Proof/Config.lean ====
section
/-! DEFINITION. The build parameters of 00_scope.md rule R5 that are `OPEN`. A machine carries one
`Config` as a constant field of its state (log 1); nothing here is a free value, since R5 makes each
open point a parameter. Which configurations are valid (R6) is `Config.valid` in
Machine/Operands.lean. -/

namespace Sys2Proof

/-- The open parameters of R5, with the widths R5 gives them. -/
structure Config where
  /-- `PERIOD`: ticks of one DShot bit slot (D23). -/
  period : BitVec 16
  /-- `DUTY1_PCT`: high time of a 1 bit in percent of `PERIOD` (D23). -/
  duty1 : BitVec 7
  /-- `DUTY0_PCT`: high time of a 0 bit in percent of `PERIOD` (D23). -/
  duty0 : BitVec 7
  /-- `TLM_BIT`: the fixed telemetry flag of payload bit 0 (D21). -/
  tlm : BitVec 1
  /-- `TIMED`: channel-timer ticks are counted (true), or a channel's finish is a free draw (false)
  (D40). -/
  timed : Bool
  deriving DecidableEq, Repr

/-- The reference configuration of R5 (`PERIOD` 20, duties 75 and 37, `TLM_BIT` 0).
R5 gives `TIMED` no default: true is a DESIGN CHOICE (log 2). -/
def Config.reference : Config :=
  { period := 20, duty1 := 75, duty0 := 37, tlm := 0, timed := true }

end Sys2Proof
end

