-- ==== Sys2Proof/Machine/State.lean ====
section
/-! DEFINITION. The state of DSQX: every register of 10_state.md rule R22 that holds state, the
channel engines (R42), the level of `rst` (R230), the build parameters (R5), and three fields of the
model's own that carry the outside world: the host's operations to come, the order of the agents'
turns, and the last answer on the bus. -/

namespace Sys2Proof.Machine

/-- The registers that only the host's bus writes change (R25 to R31, R34, R37). -/
structure HostRegs where
  kpRoll : Word
  kdRoll : Word
  kpPitch : Word
  kdPitch : Word
  kpYaw : Word
  kdYaw : Word
  kiYaw : Word
  /-- Bits [30:0] of `YAW_I_LIMIT`; bit 31 is hardwired 0 (R26). -/
  yawILimit : BitVec 31
  mixRoll : Word
  mixPitch : Word
  mixYaw : Word
  thrustMin : Word
  thrustMax : Word
  estRoll : Word
  estPitch : Word
  estYaw : Word
  estRollRate : Word
  estPitchRate : Word
  estYawRate : Word
  spRoll : Word
  spPitch : Word
  spYaw : Word
  baseFrac : Word
  stage : Quad Word
  /-- Bits [10:0] of `ENC_IN`; bits [31:11] read 0 (R37). -/
  encIn : Throttle
  deriving DecidableEq, Repr

/-- A channel engine (R42). An idle engine's `slot` and `tick` have no meaning and are not there
(log 6). -/
inductive Channel where
  /-- `busy` = 0. -/
  | idle
  /-- `busy` = 1, playing tick `tick` of slot `slot`. -/
  | playing (slot : SlotIx) (tick : Nat)
  deriving DecidableEq, Repr

/-- What the ports `bus_ready`, `bus_err` and `bus_rdata` answered to the last transaction presented
(R8). `bus_rdata` of a write is not described and not there (log 8). -/
inductive BusResponse where
  /-- No transaction has been presented since reset. -/
  | idle
  /-- `bus_ready` = 0: the transaction is not accepted while `rst` is active (R230). -/
  | stalled
  /-- A read completed with `bus_rdata` and `bus_err`. -/
  | read (rdata : Word) (err : Bool)
  /-- A write completed with `bus_err`. -/
  | written (err : Bool)
  deriving DecidableEq, Repr

/-- The state of DSQX and of its surroundings. -/
structure State where
  /-- The build parameters (R5); constant. -/
  cfg : Config
  regs : HostRegs
  /-- `YAW_INTEG` (R32). -/
  yawInteg : Word
  /-- `THRUST0` to `THRUST3` (R33). -/
  thrust : Quad Word
  /-- `LAST_THR0` to `LAST_THR3` (R39). -/
  lastThr : Quad Throttle
  /-- `LAST_FRAME0` to `LAST_FRAME3` (R40). -/
  lastFrame : Quad Frame
  /-- `SLOT[m][i]` (R41). -/
  slotBuf : Quad (Vector (BitVec 16) 17)
  /-- The channel engines (R42). -/
  chan : Quad Channel
  /-- `STATUS.MCLAMP[3:0]` (R24). -/
  mclamp : Quad Bool
  /-- `STATUS.ICLAMP` (R24). -/
  iclamp : Bool
  /-- `STATUS.SAT` (R24). -/
  sat : Bool
  /-- `STATUS.ILLEGAL` (R24). -/
  illegal : Bool
  /-- `STATUS.FAULT` (R24). -/
  fault : Bool
  /-- Whether the input `rst` is active (R230). -/
  rstActive : Bool
  /-- The model's own: the last answer on the bus (log 8). -/
  resp : BusResponse
  /-- The model's own: the bus operations the host has still to issue, in its program order (R69,
  log 4). -/
  prog : List HostOp
  /-- The model's own: whose turns come next (log 3). -/
  sched : List Turn
  deriving DecidableEq, Repr

/-- The machine stops. No command and no bus transaction ever stops DSQX (R200, R207). -/
inductive Fault where
  /-- Raised by the step, on the turn `clkStop`: the input `clk` has stopped, which the spec leaves
  outside the model with the treatment `stuck` (R213, 93_implementation_defined.md). Safe (log 10). -/
  | clockStopped
  deriving DecidableEq, Repr

/-- The model gives no meaning. -/
inductive Refusal where
  /-- An instruction without a meaning; no arm of `exec` answers it. Safe. -/
  | notModelled (mnemonic : String)
  /-- Raised by the step when the build parameters are not a valid configuration: "A model refuses an
  invalid configuration rather than giving it a meaning" (R6). Safe (log 1). -/
  | invalidConfiguration
  deriving DecidableEq, Repr

/-- The host-written registers after reset: all 0 (R231). -/
def HostRegs.zero : HostRegs :=
  { kpRoll := 0, kdRoll := 0, kpPitch := 0, kdPitch := 0, kpYaw := 0, kdYaw := 0, kiYaw := 0
    yawILimit := 0, mixRoll := 0, mixPitch := 0, mixYaw := 0, thrustMin := 0, thrustMax := 0
    estRoll := 0, estPitch := 0, estYaw := 0, estRollRate := 0, estPitchRate := 0, estYawRate := 0
    spRoll := 0, spPitch := 0, spYaw := 0, baseFrac := 0, stage := Quad.fill 0, encIn := 0 }

/-- The reset state of R231 for the build parameters `cfg`, with `rst` inactive, nothing yet asked of
the bus, and no input from outside. -/
def State.initial (cfg : Config) : State :=
  { cfg := cfg, regs := HostRegs.zero, yawInteg := 0, thrust := Quad.fill 0, lastThr := Quad.fill 0
    lastFrame := Quad.fill 0, slotBuf := Quad.fill (Vector.replicate 17 0)
    chan := Quad.fill .idle, mclamp := Quad.fill false, iclamp := false, sat := false
    illegal := false, fault := false, rstActive := false, resp := .idle, prog := [], sched := [] }

/-- The machine right after reset (R231), in the reference configuration (R5, log 2). -/
def State.reset : State := State.initial Config.reference

end Sys2Proof.Machine
end

