-- ==== Sys2Proof/Machine/Operands.lean ====
section
/-! DEFINITION. Operands: the register map (10_state.md rule R22) and the number formats and
arithmetic of 00_scope.md rules R9 to R14, with the compare values and the validity of a configuration
(R6, R164). A command has no other operand form than named registers and the channel `CH` (R81). -/

namespace Sys2Proof.Machine

/-! ### Register map (R22) -/

/-- The byte offset of a register (R22). -/
def regOffset : Reg → Offset
  | .cmd => 0x000
  | .status => 0x004
  | .kpRoll => 0x010
  | .kdRoll => 0x014
  | .kpPitch => 0x018
  | .kdPitch => 0x01C
  | .kpYaw => 0x020
  | .kdYaw => 0x024
  | .kiYaw => 0x028
  | .yawILimit => 0x02C
  | .mixRoll => 0x030
  | .mixPitch => 0x034
  | .mixYaw => 0x038
  | .thrustMin => 0x03C
  | .thrustMax => 0x040
  | .estRoll => 0x050
  | .estPitch => 0x054
  | .estYaw => 0x058
  | .estRollRate => 0x05C
  | .estPitchRate => 0x060
  | .estYawRate => 0x064
  | .spRoll => 0x068
  | .spPitch => 0x06C
  | .spYaw => 0x070
  | .baseFrac => 0x074
  | .yawInteg => 0x078
  | .thrust m => BitVec.ofNat 10 (0x080 + 4 * m.val)
  | .stage m => BitVec.ofNat 10 (0x090 + 4 * m.val)
  | .dshotCfg => 0x0A0
  | .dshotCmp => 0x0A4
  | .encIn => 0x0A8
  | .encFrame => 0x0AC
  | .lastThr m => BitVec.ofNat 10 (0x0B0 + 4 * m.val)
  | .lastFrame m => BitVec.ofNat 10 (0x0C0 + 4 * m.val)
  | .slot m i => BitVec.ofNat 10 (0x100 + 0x80 * m.val + 4 * i.val)

/-- The registers below offset 0x080 (R22). -/
def lowRegAt : Nat → Option Reg
  | 0x000 => some .cmd
  | 0x004 => some .status
  | 0x010 => some .kpRoll
  | 0x014 => some .kdRoll
  | 0x018 => some .kpPitch
  | 0x01C => some .kdPitch
  | 0x020 => some .kpYaw
  | 0x024 => some .kdYaw
  | 0x028 => some .kiYaw
  | 0x02C => some .yawILimit
  | 0x030 => some .mixRoll
  | 0x034 => some .mixPitch
  | 0x038 => some .mixYaw
  | 0x03C => some .thrustMin
  | 0x040 => some .thrustMax
  | 0x050 => some .estRoll
  | 0x054 => some .estPitch
  | 0x058 => some .estYaw
  | 0x05C => some .estRollRate
  | 0x060 => some .estPitchRate
  | 0x064 => some .estYawRate
  | 0x068 => some .spRoll
  | 0x06C => some .spPitch
  | 0x070 => some .spYaw
  | 0x074 => some .baseFrac
  | 0x078 => some .yawInteg
  | _ => none

/-- The register that stands at an aligned byte offset; `none` where R22 marks the offset reserved,
and at an offset that is not a multiple of 4. -/
def regAt (off : Offset) : Option Reg :=
  let n := off.toNat
  if n % 4 ≠ 0 then none
  else if n < 0x080 then lowRegAt n
  else if n < 0x090 then some (.thrust (Fin.ofNat 4 ((n - 0x080) / 4)))
  else if n < 0x0A0 then some (.stage (Fin.ofNat 4 ((n - 0x090) / 4)))
  else if n = 0x0A0 then some .dshotCfg
  else if n = 0x0A4 then some .dshotCmp
  else if n = 0x0A8 then some .encIn
  else if n = 0x0AC then some .encFrame
  else if n < 0x0C0 then some (.lastThr (Fin.ofNat 4 ((n - 0x0B0) / 4)))
  else if n < 0x0D0 then some (.lastFrame (Fin.ofNat 4 ((n - 0x0C0) / 4)))
  else if n < 0x100 then none
  else if n < 0x300 then
    if (n - 0x100) % 0x80 / 4 ≤ 16 then
      some (.slot (Fin.ofNat 4 ((n - 0x100) / 0x80)) (Fin.ofNat 17 ((n - 0x100) % 0x80 / 4)))
    else none
  else none

/-- The registers a bus write may not address: access RO in R22, as R64 lists them. `STATUS` is not
among them (R64). -/
def readOnly : Reg → Bool
  | .yawInteg => true
  | .thrust _ => true
  | .dshotCfg => true
  | .dshotCmp => true
  | .encFrame => true
  | .lastThr _ => true
  | .lastFrame _ => true
  | .slot _ _ => true
  | _ => false

/-! ### Numbers (R9, R10, R12 to R14) -/

/-- `s32(u)`: a word as a two's-complement integer (R10). -/
def s32 (w : Word) : Int := w.toInt

/-- `u32(x)`: an integer modulo 2^32 (R10). -/
def u32 (x : Int) : Word := BitVec.ofInt 32 x

/-- The result of a saturating operation, and whether it set `satflag` (R12). -/
structure SatResult where
  val : Int
  sat : Bool
  deriving DecidableEq, Repr

/-- `sat32(x)` (R12). -/
def sat32 (x : Int) : SatResult :=
  if x < -2147483648 then ⟨-2147483648, true⟩
  else if x > 2147483647 then ⟨2147483647, true⟩
  else ⟨x, false⟩

/-- `x >> 16` on a signed integer: toward minus infinity (R10). Division by a positive number rounds
down in Lean's `Int`. -/
def asr16 (x : Int) : Int := x / 65536

/-- `qadd` (R13). -/
def qadd (a b : Int) : SatResult := sat32 (a + b)

/-- `qsub` (R13). -/
def qsub (a b : Int) : SatResult := sat32 (a - b)

/-- `qmul` (R13): exact product, then the arithmetic shift, then saturation. -/
def qmul (a b : Int) : SatResult := sat32 (asr16 (a * b))

/-- `clamp(x, lo, hi)` (R14). -/
def clamp (x lo hi : Int) : Int := min (max x lo) hi

/-! ### Compare values and validity (R6, R164) -/

/-- `C1` (R164). -/
def compareOne (c : Config) : Nat := c.period.toNat * c.duty1.toNat / 100

/-- `C0` (R164). -/
def compareZero (c : Config) : Nat := c.period.toNat * c.duty0.toNat / 100

/-- A configuration is valid only when `0 < C0 < C1 < PERIOD` (R6). -/
def configValid (c : Config) : Bool :=
  decide (0 < compareZero c) && decide (compareZero c < compareOne c)
    && decide (compareOne c < c.period.toNat)

end Sys2Proof.Machine
end

