-- ==== Sys2Proof/Machine/Encoder.lean ====
section
/-! DEFINITION. The DShot encoder as a pure function (43_dshot_encoder.md rules R160 to R165), the
line level of a slot (R170), and what a receiver of the wire does (R173). -/

namespace Sys2Proof.Machine

/-- `throttle(T)` (R160): the fraction is dropped, the rest saturates to 0..2047. -/
def throttle (t : Word) : Throttle := BitVec.ofInt 11 (clamp (asr16 (s32 t)) 0 2047)

/-- `payload(thr)` = `{thr[10:0], TLM_BIT}` (R161). -/
def payload (tlm : BitVec 1) (thr : Throttle) : BitVec 12 := thr ++ tlm

/-- `checksum(p)` (R162): the XOR of the three nibbles. -/
def checksum (p : BitVec 12) : BitVec 4 :=
  p.extractLsb' 8 4 ^^^ p.extractLsb' 4 4 ^^^ p.extractLsb' 0 4

/-- `dshot_frame(thr)` (R163): payload in bits [15:4], checksum in bits [3:0]. -/
def dshotFrame (tlm : BitVec 1) (thr : Throttle) : Frame :=
  payload tlm thr ++ checksum (payload tlm thr)

/-- The compare value of slot `i` of a frame's buffer (R165): frame bit `15 - i`, the most significant
first, then the reset slot 0. -/
def slotValue (c : Config) (fr : Frame) (i : Nat) : BitVec 16 :=
  if i < 16 then
    if fr.getLsbD (15 - i) then BitVec.ofNat 16 (compareOne c) else BitVec.ofNat 16 (compareZero c)
  else 0

/-- `slots(fr)` (R165). -/
def slots (c : Config) (fr : Frame) : Vector (BitVec 16) 17 :=
  Vector.ofFn fun i => slotValue c fr i.val

/-- The line during one tick of a slot: high while the tick is below the compare value (R170). -/
def lineLevel (buf : Vector (BitVec 16) 17) (slot : SlotIx) (tick : Nat) : Bool :=
  decide (tick < buf[slot].toNat)

/-- How many of the `PERIOD` ticks of a slot the line is high, as a receiver measures it (R173). -/
def highTime (c : Config) (buf : Vector (BitVec 16) 17) (slot : SlotIx) : Nat :=
  (List.range c.period.toNat).countP fun t => lineLevel buf slot t

/-- A receiver's reading of the 16 bit slots (R173): 1 at a high time of `C1` ticks, 0 at `C0` ticks;
`none` when some slot is neither. -/
def receiveFrame (c : Config) (high : SlotIx → Nat) : Option Frame :=
  if ∀ i : Fin 16, high (Fin.ofNat 17 i.val) = compareOne c ∨
      high (Fin.ofNat 17 i.val) = compareZero c then
    some (BitVec.ofFnLE fun j : Fin 16 => decide (high (Fin.ofNat 17 (15 - j.val)) = compareOne c))
  else none

/-- A receiver accepts a frame when its low nibble is the XOR of the other three (R173). -/
def frameAccepted (fr : Frame) : Bool := decide (fr.extractLsb' 0 4 = checksum (fr.extractLsb' 4 12))

end Sys2Proof.Machine
end

