-- ==== Sys2Proof/Machine/Flags.lean ====
section
/-! DEFINITION. The fields of `STATUS` (10_state.md rule R24): how the word is composed, and what a
write to it clears. What each command does to the fields stands in its own rule. -/

namespace Sys2Proof.Machine

/-- `busy[m]` of a channel engine (R42). -/
def Channel.busy : Channel → Bool
  | .idle => false
  | .playing _ _ => true

/-- `STATUS.BUSY[3:0]` as flags (R24). -/
def busyFlags (s : State) : Quad Bool := s.chan.map Channel.busy

/-- Whether some channel is busy (R167). -/
def anyBusy (s : State) : Bool := (busyFlags s).any

/-- The value `STATUS` reads (R24): [3:0] `BUSY`, [7:4] `MCLAMP`, [8] `ICLAMP`, [16] `SAT`,
[17] `ILLEGAL`, [24] `FAULT`, every other bit 0. -/
def statusWord (s : State) : Word :=
  0#7 ++ BitVec.ofBool s.fault ++ 0#6 ++ BitVec.ofBool s.illegal ++ BitVec.ofBool s.sat ++ 0#7
    ++ BitVec.ofBool s.iclamp ++ s.mclamp.nibble ++ (busyFlags s).nibble

/-- `SAT` after a write of `v` to `STATUS`: cleared where bit 16 is 1 (R24). -/
def satAfterClear (v : Word) (sat : Bool) : Bool := sat && !v.getLsbD 16

/-- `ILLEGAL` after a write of `v` to `STATUS`: cleared where bit 17 is 1 (R24). -/
def illegalAfterClear (v : Word) (illegal : Bool) : Bool := illegal && !v.getLsbD 17

end Sys2Proof.Machine
end

