-- ==== Sys2Proof/Machine/Ops.lean ====
section
/-! DEFINITION. The named operations over the registers: the updates the meanings are written with,
reading and writing a register (20_memory.md rules R65 and R66), and the three error events of
60_exceptions.md rule R200. DSQX has no trap: these events are all there is to taking an exception, and
there is no return from one (R207, R208). -/

namespace Sys2Proof.Machine

/-! ### Updates -/

/-- The bus answers (R8). -/
def State.setResp (s : State) (r : BusResponse) : State := { s with resp := r }

/-- The host's operations still to come. -/
def State.setProg (s : State) (p : List HostOp) : State := { s with prog := p }

/-- The turns still to come. -/
def State.setSched (s : State) (q : List Turn) : State := { s with sched := q }

/-- The registers only the host writes. -/
def State.setRegs (s : State) (r : HostRegs) : State := { s with regs := r }

/-- `YAW_INTEG` and `ICLAMP`, written together (R113, R119). -/
def State.setIntegrator (s : State) (i : Word) (clamped : Bool) : State :=
  { s with yawInteg := i, iclamp := clamped }

/-- ThrustCommand and `MCLAMP`, written in one event (R71). -/
def State.publish (s : State) (t : Quad Word) (clamped : Quad Bool) : State :=
  { s with thrust := t, mclamp := clamped }

/-- `if satflag = 1 then SAT <- 1` (R118). -/
def State.raiseSat (s : State) (satflag : Bool) : State := { s with sat := s.sat || satflag }

/-- A write of `v` to `STATUS` clears the sticky bits it names (R24). -/
def State.clearSticky (s : State) (v : Word) : State :=
  { s with sat := satAfterClear v s.sat, illegal := illegalAfterClear v s.illegal }

/-- What a successful `UPDATE` writes: `LAST_THRm`, `LAST_FRAMEm`, `SLOT[m][i]` (R167). -/
def State.loadBuffers (s : State) (thr : Quad Throttle) (fr : Quad Frame)
    (buf : Quad (Vector (BitVec 16) 17)) : State :=
  { s with lastThr := thr, lastFrame := fr, slotBuf := buf }

/-- The channel engines (R42). -/
def State.setChan (s : State) (c : Quad Channel) : State := { s with chan := c }

/-! ### Error events (R200) -/

/-- `raise BusError` (R203): the transaction completes with `bus_err` = 1, a read returns 0, nothing
else changes. -/
def raiseBusError (write : Bool) (s : State) : State :=
  s.setResp (if write then .written true else .read 0 true)

/-- The illegal-command event (R201): `ILLEGAL` <- 1. -/
def raiseIllegal (s : State) : State := { s with illegal := true }

/-- The start-failure event (R202): `FAULT` <- 1. -/
def raiseStartFailure (s : State) : State := { s with fault := true }

/-! ### Registers -/

/-- `DSHOT_CFG` (R35). -/
def dshotCfgWord (c : Config) : Word := c.tlm ++ c.duty0 ++ 0#1 ++ c.duty1 ++ c.period

/-- `DSHOT_CMP` (R36). -/
def dshotCmpWord (c : Config) : Word :=
  BitVec.ofNat 16 (compareOne c) ++ BitVec.ofNat 16 (compareZero c)

/-- `R[name]`: what a legal read returns (R65). -/
def readReg (s : State) : Reg → Word
  | .cmd => 0
  | .status => statusWord s
  | .kpRoll => s.regs.kpRoll
  | .kdRoll => s.regs.kdRoll
  | .kpPitch => s.regs.kpPitch
  | .kdPitch => s.regs.kdPitch
  | .kpYaw => s.regs.kpYaw
  | .kdYaw => s.regs.kdYaw
  | .kiYaw => s.regs.kiYaw
  | .yawILimit => s.regs.yawILimit.setWidth 32
  | .mixRoll => s.regs.mixRoll
  | .mixPitch => s.regs.mixPitch
  | .mixYaw => s.regs.mixYaw
  | .thrustMin => s.regs.thrustMin
  | .thrustMax => s.regs.thrustMax
  | .estRoll => s.regs.estRoll
  | .estPitch => s.regs.estPitch
  | .estYaw => s.regs.estYaw
  | .estRollRate => s.regs.estRollRate
  | .estPitchRate => s.regs.estPitchRate
  | .estYawRate => s.regs.estYawRate
  | .spRoll => s.regs.spRoll
  | .spPitch => s.regs.spPitch
  | .spYaw => s.regs.spYaw
  | .baseFrac => s.regs.baseFrac
  | .yawInteg => s.yawInteg
  | .thrust m => s.thrust.get m
  | .stage m => s.regs.stage.get m
  | .dshotCfg => dshotCfgWord s.cfg
  | .dshotCmp => dshotCmpWord s.cfg
  | .encIn => s.regs.encIn.setWidth 32
  | .encFrame => (dshotFrame s.cfg.tlm s.regs.encIn).setWidth 32
  | .lastThr m => (s.lastThr.get m).setWidth 32
  | .lastFrame m => (s.lastFrame.get m).setWidth 32
  | .slot m i => (s.slotBuf.get m)[i].setWidth 32

/-- `R[name] <- v`, for a legal bus write of `v` to a register other than `CMD` (R66). `CMD` stores
nothing (R23), and a read-only register keeps its value (R64). -/
def writeReg (r : Reg) (v : Word) (s : State) : State :=
  match r with
  | .cmd => s
  | .status => s.clearSticky v
  | .kpRoll => s.setRegs { s.regs with kpRoll := v }
  | .kdRoll => s.setRegs { s.regs with kdRoll := v }
  | .kpPitch => s.setRegs { s.regs with kpPitch := v }
  | .kdPitch => s.setRegs { s.regs with kdPitch := v }
  | .kpYaw => s.setRegs { s.regs with kpYaw := v }
  | .kdYaw => s.setRegs { s.regs with kdYaw := v }
  | .kiYaw => s.setRegs { s.regs with kiYaw := v }
  | .yawILimit => s.setRegs { s.regs with yawILimit := v.setWidth 31 }
  | .mixRoll => s.setRegs { s.regs with mixRoll := v }
  | .mixPitch => s.setRegs { s.regs with mixPitch := v }
  | .mixYaw => s.setRegs { s.regs with mixYaw := v }
  | .thrustMin => s.setRegs { s.regs with thrustMin := v }
  | .thrustMax => s.setRegs { s.regs with thrustMax := v }
  | .estRoll => s.setRegs { s.regs with estRoll := v }
  | .estPitch => s.setRegs { s.regs with estPitch := v }
  | .estYaw => s.setRegs { s.regs with estYaw := v }
  | .estRollRate => s.setRegs { s.regs with estRollRate := v }
  | .estPitchRate => s.setRegs { s.regs with estPitchRate := v }
  | .estYawRate => s.setRegs { s.regs with estYawRate := v }
  | .spRoll => s.setRegs { s.regs with spRoll := v }
  | .spPitch => s.setRegs { s.regs with spPitch := v }
  | .spYaw => s.setRegs { s.regs with spYaw := v }
  | .baseFrac => s.setRegs { s.regs with baseFrac := v }
  | .stage m => s.setRegs { s.regs with stage := s.regs.stage.set m v }
  | .encIn => s.setRegs { s.regs with encIn := v.setWidth 11 }
  | .yawInteg => s
  | .thrust _ => s
  | .dshotCfg => s
  | .dshotCmp => s
  | .encFrame => s
  | .lastThr _ => s
  | .lastFrame _ => s
  | .slot _ _ => s

/-- Byte lane view (R63): the byte a byte-addressed host finds at window offset `off`, bits
[8k+7:8k] of the register whose lane `k` sits there; 0 at a reserved offset, as its read returns.
No rule of DSQX reads it, since only whole registers are accessed (log 13). -/
def laneByte (s : State) (off : Offset) : Byte :=
  match regAt (BitVec.ofNat 10 (off.toNat / 4 * 4)) with
  | some r => (readReg s r).extractLsb' (8 * (off.toNat % 4)) 8
  | none => 0

end Sys2Proof.Machine
end

