-- ==== Sys2Proof/Machine/CommandEngine.lean ====
section
/-! DEFINITION. `NOP` (40_command_engine.md rule R101). -/

namespace Sys2Proof.Machine

/-- `NOP` (R101): `skip`. -/
def execNop (s : State) : Host.Outcome State Fault Refusal := .next s

end Sys2Proof.Machine
end

