-- ==== Sys2Proof/Machine/ControlLaw.lean ====
section
/-! DEFINITION. The control law and the quad-X mixer, `CTRL_STEP` (41_control_law.md rules R110 to
R118), and the integrator reset `CLR_INTEG` (R119). Every intermediate of R110's pseudocode is one
definition over the state the command starts in; a `SatResult` carries its own `satflag`. -/

namespace Sys2Proof.Machine

/-! ### Angle errors (R111) -/

/-- `e_r`. -/
def errRoll (s : State) : SatResult := qsub (s32 s.regs.spRoll) (s32 s.regs.estRoll)

/-- `e_p`. -/
def errPitch (s : State) : SatResult := qsub (s32 s.regs.spPitch) (s32 s.regs.estPitch)

/-- `e_y`. -/
def errYaw (s : State) : SatResult := qsub (s32 s.regs.spYaw) (s32 s.regs.estYaw)

/-! ### Roll and pitch PD (R112) -/

/-- `KP_ROLL · e_r`. -/
def propRoll (s : State) : SatResult := qmul (s32 s.regs.kpRoll) (errRoll s).val

/-- `KD_ROLL · EST_ROLL_RATE`. -/
def derivRoll (s : State) : SatResult := qmul (s32 s.regs.kdRoll) (s32 s.regs.estRollRate)

/-- `u_r`. -/
def outRoll (s : State) : SatResult := qsub (propRoll s).val (derivRoll s).val

/-- `KP_PITCH · e_p`. -/
def propPitch (s : State) : SatResult := qmul (s32 s.regs.kpPitch) (errPitch s).val

/-- `KD_PITCH · EST_PITCH_RATE`. -/
def derivPitch (s : State) : SatResult := qmul (s32 s.regs.kdPitch) (s32 s.regs.estPitchRate)

/-- `u_p`. -/
def outPitch (s : State) : SatResult := qsub (propPitch s).val (derivPitch s).val

/-! ### Yaw PID and anti-windup (R113) -/

/-- The integrator's contribution `KI_YAW · e_y`. -/
def integStep (s : State) : SatResult := qmul (s32 s.regs.kiYaw) (errYaw s).val

/-- `acc`. -/
def integAcc (s : State) : SatResult := qadd (s32 s.yawInteg) (integStep s).val

/-- `L`, which is never negative (R26). -/
def integLimit (s : State) : Int := (s.regs.yawILimit.toNat : Int)

/-- `i_new`. -/
def integNew (s : State) : Int := clamp (integAcc s).val (-integLimit s) (integLimit s)

/-- `KP_YAW · e_y`. -/
def propYaw (s : State) : SatResult := qmul (s32 s.regs.kpYaw) (errYaw s).val

/-- `KD_YAW · EST_YAW_RATE`. -/
def derivYaw (s : State) : SatResult := qmul (s32 s.regs.kdYaw) (s32 s.regs.estYawRate)

/-- The proportional and derivative part of `u_y`. -/
def pdYaw (s : State) : SatResult := qsub (propYaw s).val (derivYaw s).val

/-- `u_y`, with the integrator after this step's clamp. -/
def outYaw (s : State) : SatResult := qadd (pdYaw s).val (integNew s)

/-! ### Mixer deltas (R114) and base thrust (R115) -/

/-- `d_r`. -/
def deltaRoll (s : State) : SatResult := qmul (s32 s.regs.mixRoll) (outRoll s).val

/-- `d_p`. -/
def deltaPitch (s : State) : SatResult := qmul (s32 s.regs.mixPitch) (outPitch s).val

/-- `d_y`. -/
def deltaYaw (s : State) : SatResult := qmul (s32 s.regs.mixYaw) (outYaw s).val

/-- `f`, the clamped base-throttle fraction; the register keeps its value (R31). -/
def baseFraction (s : State) : Int := clamp (s32 s.regs.baseFrac) 0 65536

/-- `THRUST_MAX − THRUST_MIN`. -/
def thrustSpan (s : State) : SatResult := qsub (s32 s.regs.thrustMax) (s32 s.regs.thrustMin)

/-- `f × (THRUST_MAX − THRUST_MIN)`. -/
def thrustAbove (s : State) : SatResult := qmul (baseFraction s) (thrustSpan s).val

/-- `base`. -/
def baseThrust (s : State) : SatResult := qadd (s32 s.regs.thrustMin) (thrustAbove s).val

/-! ### Mixer (R116), clamp (R117), saturation flag (R118) -/

/-- The fixed matrix `MIX` of R116: one row for each motor, with the columns base, roll, pitch, yaw. -/
def mixMatrix : Quad (Quad Int) :=
  { m0 := ⟨1, 1, 1, -1⟩
    m1 := ⟨1, -1, 1, 1⟩
    m2 := ⟨1, -1, -1, -1⟩
    m3 := ⟨1, 1, -1, 1⟩ }

/-- `s[m]`: an exact integer sum (R116). -/
def motorSum (s : State) (m : Motor) : Int :=
  (mixMatrix.get m).m0 * (baseThrust s).val + (mixMatrix.get m).m1 * (deltaRoll s).val
    + (mixMatrix.get m).m2 * (deltaPitch s).val + (mixMatrix.get m).m3 * (deltaYaw s).val

/-- `t[m]` (R117). -/
def motorThrust (s : State) (m : Motor) : Int :=
  clamp (motorSum s m) (s32 s.regs.thrustMin) (s32 s.regs.thrustMax)

/-- Every `qadd`, `qsub` and `qmul` of one `CTRL_STEP` (R111 to R115). -/
def satOps (s : State) : List SatResult :=
  [errRoll s, errPitch s, errYaw s, propRoll s, derivRoll s, outRoll s, propPitch s, derivPitch s,
    outPitch s, integStep s, integAcc s, propYaw s, derivYaw s, pdYaw s, outYaw s, deltaRoll s,
    deltaPitch s, deltaYaw s, thrustSpan s, thrustAbove s, baseThrust s]

/-- `satflag` at the end of the step (R118). -/
def satFlag (s : State) : Bool := (satOps s).any SatResult.sat

/-! ### Commands -/

/-- `CTRL_STEP` (R110): reads the state it starts in, then one indivisible write. -/
def execCtrlStep (s : State) : Host.Outcome State Fault Refusal :=
  .next (((s.setIntegrator (u32 (integNew s)) (decide (integNew s ≠ (integAcc s).val))).publish
    (Quad.ofFn fun m => u32 (motorThrust s m))
    (Quad.ofFn fun m => decide (motorThrust s m ≠ motorSum s m))).raiseSat (satFlag s))

/-- `CLR_INTEG` (R119). -/
def execClrInteg (s : State) : Host.Outcome State Fault Refusal := .next (s.setIntegrator 0 false)

end Sys2Proof.Machine
end

