-- ==== Sys2Proof/Machine/ThrustCommand.lean ====
section
/-! DEFINITION. The commands that write ThrustCommand from the staging registers or to zero
(42_thrust_command.md rules R140 to R142). -/

namespace Sys2Proof.Machine

/-- The staged value under the upper bound `THRUST_MAX`; there is no lower bound (R140, R141). -/
def stagedThrust (s : State) (m : Motor) : Int :=
  min (s32 (s.regs.stage.get m)) (s32 s.regs.thrustMax)

/-- Whether the bound changed the staged value: `t[m] != v[m]` (R140, R141). -/
def stagedClamped (s : State) (m : Motor) : Bool :=
  decide (stagedThrust s m ≠ s32 (s.regs.stage.get m))

/-- `SET_THRUST` (R140): all four, in one event. -/
def execSetThrust (s : State) : Host.Outcome State Fault Refusal :=
  .next (s.publish (Quad.ofFn fun m => u32 (stagedThrust s m)) (Quad.ofFn fun m => stagedClamped s m))

/-- `SET_MOTOR` (R141): channel `m` only. -/
def execSetMotor (m : Motor) (s : State) : Host.Outcome State Fault Refusal :=
  .next (s.publish (s.thrust.set m (u32 (stagedThrust s m))) (s.mclamp.set m (stagedClamped s m)))

/-- `ZERO_THRUST` (R142): exactly 0 on all four, whatever `THRUST_MIN` is. -/
def execZeroThrust (s : State) : Host.Outcome State Fault Refusal :=
  .next (s.publish (Quad.fill 0) (Quad.fill false))

end Sys2Proof.Machine
end

