-- ==== Sys2Proof/Machine/ChannelEngine.lean ====
section
/-! DEFINITION. The channel engines and the output lines (43_dshot_encoder.md rules R169 to R172, and
10_state.md rule R43). -/

namespace Sys2Proof.Machine

/-- `start(m)` (R169): busy, at tick 0 of slot 0. -/
def startedChannel : Channel := .playing 0 0

/-- `channel_tick(m)` (R169), once per `clk` cycle while busy. -/
def channelTick (c : Config) : Channel → Channel
  | .idle => .idle
  | .playing slot tick =>
    if tick + 1 < c.period.toNat then .playing slot (tick + 1)
    else if slot.val < 16 then .playing (Fin.ofNat 17 (slot.val + 1)) 0
    else .idle

/-- One `clk` cycle without a transaction. With `TIMED` = true every engine advances (R169); with
`TIMED` = false cycles are not counted (R5). -/
def clockCycle (s : State) : State :=
  if s.cfg.timed then s.setChan (s.chan.map (channelTick s.cfg)) else s

/-- The free finish step of channel `m` with `TIMED` = false (R169). With `TIMED` = true there is no
such step and the turn passes (log 9). -/
def finishChannel (m : Motor) (s : State) : State :=
  if s.cfg.timed then s else s.setChan (s.chan.set m .idle)

/-- `dshot_out[m]` (R43, R170). `none` while a channel is busy with `TIMED` = false: "the waveform is
then not modelled" (R169, log 7). -/
def dshotOut (s : State) (m : Motor) : Option Bool :=
  match s.chan.get m with
  | .idle => some false
  | .playing slot tick => if s.cfg.timed then some (lineLevel (s.slotBuf.get m) slot tick) else none

end Sys2Proof.Machine
end

