-- ==== Sys2Proof/Machine/Transmit.lean ====
section
/-! DEFINITION. The commands that transmit, `UPDATE` and `UPDATE_ALL` (43_dshot_encoder.md rules R167,
R168 and R172). -/

namespace Sys2Proof.Machine

/-- The throttle values of one snapshot of ThrustCommand (R160, R167). -/
def throttles (s : State) : Quad Throttle := s.thrust.map throttle

/-- The frames of one snapshot of ThrustCommand (R163, R167). -/
def frames (s : State) : Quad Frame := (throttles s).map (dshotFrame s.cfg.tlm)

/-- A successful start: buffers and read-backs written, all four channels started, in one event
(R167). -/
def sendFrames (s : State) : State :=
  (s.loadBuffers (throttles s) (frames s) ((frames s).map (slots s.cfg))).setChan
    (Quad.fill startedChannel)

/-- The one semantics of `UPDATE` and `UPDATE_ALL` (R167, R168), with the order of checks of R205:
after a fault no effect, with a busy channel a start failure, otherwise the start. -/
def transmit (s : State) : State :=
  if s.fault then s
  else if anyBusy s then raiseStartFailure s
  else sendFrames s

/-- `UPDATE` (R167). -/
def execUpdate (s : State) : Host.Outcome State Fault Refusal := .next (transmit s)

/-- `UPDATE_ALL` (R168). -/
def execUpdateAll (s : State) : Host.Outcome State Fault Refusal := .next (transmit s)

end Sys2Proof.Machine
end

