-- ==== Sys2Proof/Machine/Dispatch.lean ====
section
/-! DEFINITION. One arm per command: the case of 40_command_engine.md rule R100. -/

namespace Sys2Proof.Machine

def exec (i : Instr) (s : State) : Host.Outcome State Fault Refusal :=
  match i with
  | .nop => Sys2Proof.Machine.execNop s
  | .ctrlStep => Sys2Proof.Machine.execCtrlStep s
  | .setThrust => Sys2Proof.Machine.execSetThrust s
  | .setMotor m => Sys2Proof.Machine.execSetMotor m s
  | .zeroThrust => Sys2Proof.Machine.execZeroThrust s
  | .update => Sys2Proof.Machine.execUpdate s
  | .updateAll => Sys2Proof.Machine.execUpdateAll s
  | .clrInteg => Sys2Proof.Machine.execClrInteg s

end Sys2Proof.Machine
end

