-- ==== Sys2Proof/Machine/Bus.lean ====
section
/-! DEFINITION. The command engine's dispatch (40_command_engine.md rule R100) and the two bus
transactions (20_memory.md rules R61 to R66), with the order of checks of 60_exceptions.md rule
R205. -/

namespace Sys2Proof.Machine

/-- `command_engine(w)` (R100): one command, or only `set ILLEGAL` (R201). -/
def commandEngine (w : Word) (s : State) : Host.Outcome State Fault Refusal :=
  match Sys2Proof.decode w with
  | .command i => exec i s
  | .illegal _ => .next (raiseIllegal s)

/-- The register a transaction legally addresses; `none` where the bus checks of R61 (width), R62
(alignment) and R64 (reserved offset, write to a read-only register) reject it. -/
def legalTarget (t : Transaction) : Option Reg :=
  if t.size ≠ 2 then none
  else if t.addr.extractLsb' 0 2 ≠ 0 then none
  else
    match regAt t.addr with
    | none => none
    | some r => if t.write && readOnly r then none else some r

/-- A legal write (R66): the bus write completes without error, also for an illegal command word
(R201). -/
def regWrite (r : Reg) (v : Word) (s : State) : Host.Outcome State Fault Refusal :=
  if r = .cmd then commandEngine v (s.setResp (.written false))
  else .next (writeReg r v (s.setResp (.written false)))

/-- A legal read (R65): the register's value, and no change of state. -/
def regRead (r : Reg) (s : State) : State := s.setResp (.read (readReg s r) false)

/-- One bus transaction, one indivisible event (R68). -/
def busTransaction (t : Transaction) (s : State) : Host.Outcome State Fault Refusal :=
  match legalTarget t with
  | none => .next (raiseBusError t.write s)
  | some r => if t.write then regWrite r t.wdata s else .next (regRead r s)

end Sys2Proof.Machine
end

