-- ==== Sys2Proof/WellFormed.lean ====
section
/-! DEFINITION. Well-formed terms of the syntax. A command has no ill-formed term (its one operand is
a `Motor`). A literal `q(x)` of 30_encoding.md rule R85 has: "`x`, which must be a multiple of 2^-16
within the range of rule R9". -/

namespace Sys2Proof

/-- A hexadecimal literal is any word; `q(num / den)` needs a denominator, a value that is a multiple
of 2^-16, and the range of a Q16.16 word (R85, R9). -/
def Value.wf : Value → Bool
  | .hex _ => true
  | .q num den =>
    decide (den ≠ 0) && decide ((num * 65536) % (den : Int) = 0)
      && decide (-2147483648 ≤ num * 65536 / (den : Int))
      && decide (num * 65536 / (den : Int) ≤ 2147483647)

/-- A line is well-formed when each of its literals is. -/
def HostLine.wf : HostLine → Bool
  | .wr _ v => v.wf
  | .rd _ => true
  | .command _ => true
  | .raw _ => true
  | .stage4 a b c d => a.wf && b.wf && c.wf && d.wf
  | .override _ v => v.wf
  | .waitIdle => true
  | .clrErrors => true
  | .disarm => true

end Sys2Proof
end

