-- ==== Sys2Proof/Machine/Agents.lean ====
section
/-! DEFINITION. The agents around the command engine: the host and its assembled program
(00_scope.md rule R7, 30_encoding.md rules R85 and R86), the input `rst` (70_reset_and_hazards.md rule
R230), and one turn of whichever agent moves next. -/

namespace Sys2Proof.Machine

/-! ### Host programs (R85, R86) -/

/-- A `VALUE` as a raw word (R85). -/
def valueRaw : Value → Word
  | .hex w => w
  | .q num den => u32 (num * 65536 / (den : Int))

/-- `RegWrite(off, v)` as a legal-width transaction (R85). -/
def writeTxn (off : Offset) (v : Word) : Transaction :=
  { write := true, addr := off, size := 2, wdata := v }

/-- `RegRead(off)` as a legal-width transaction; the write data of a read plays no part (R85). -/
def readTxn (off : Offset) : Transaction := { write := false, addr := off, size := 2, wdata := 0 }

/-- A write of a command word to `CMD` (R85). -/
def commandTxn (w : Word) : Transaction := writeTxn (regOffset .cmd) w

/-- `wr NAME, v`. -/
def wrOp (r : Reg) (v : Word) : HostOp := .txn (writeTxn (regOffset r) v)

/-- A command mnemonic. -/
def commandOp (i : Instr) : HostOp := .txn (commandTxn (Sys2Proof.encode i))

/-- The expansion of a well-formed line (R85, R86). -/
def expandLine : HostLine → List HostOp
  | .wr r v => [wrOp r (valueRaw v)]
  | .rd r => [.txn (readTxn (regOffset r))]
  | .command i => [commandOp i]
  | .raw t => [.txn t]
  | .stage4 a b c d =>
    [wrOp (.stage 0) (valueRaw a), wrOp (.stage 1) (valueRaw b), wrOp (.stage 2) (valueRaw c),
      wrOp (.stage 3) (valueRaw d), commandOp .setThrust]
  | .override m v => [wrOp (.stage m) (valueRaw v), commandOp (.setMotor m)]
  | .waitIdle => [.pollIdle]
  | .clrErrors => [wrOp .status 0x00030000]
  | .disarm => [commandOp .zeroThrust, .pollIdle, commandOp .update]

/-- A line's bus operations; `none` for a line with an ill-formed literal. -/
def assembleLine (l : HostLine) : Option (List HostOp) :=
  if l.wf then some (expandLine l) else none

/-- A program's bus operations, in order. -/
def assemble : List HostLine → Option (List HostOp)
  | [] => some []
  | l :: ls =>
    match assembleLine l, assemble ls with
    | some a, some b => some (a ++ b)
    | _, _ => none

/-- A program placed into the host from outside (log 4). -/
def loadProgram (ls : List HostLine) (s : State) : Option State :=
  (assemble ls).map fun p => s.setProg (s.prog ++ p)

/-! ### Turns -/

/-- One poll of `wait_idle` (R86): read `STATUS`; the loop ends when bits [3:0] read 0, and is still
the host's next operation otherwise. -/
def pollStatus (rest : List HostOp) (s : State) : State :=
  if (readReg s .status).extractLsb' 0 4 = 0 then (regRead .status s).setProg rest
  else regRead .status s

/-- The host's turn: it issues its next bus operation. While `rst` is active the block accepts none
and the operation stays the host's next (R230); with nothing to issue the turn passes. -/
def hostTurn (s : State) : Host.Outcome State Fault Refusal :=
  match s.prog with
  | [] => .next s
  | .txn t :: rest =>
    if s.rstActive then .next (s.setResp .stalled) else busTransaction t (s.setProg rest)
  | .pollIdle :: rest =>
    if s.rstActive then .next (s.setResp .stalled) else .next (pollStatus rest s)

/-- The reset state of R231 at level `active` of `rst`; the build parameters and what is outside the
block stay. -/
def resetState (active : Bool) (s : State) : State :=
  { State.initial s.cfg with rstActive := active, prog := s.prog, sched := s.sched }

/-- The input `rst` changes level (R230). The registers take their reset values already when it becomes
active (log 9, DESIGN CHOICE). Becoming inactive without having been active changes
nothing. -/
def resetLine (active : Bool) (s : State) : State :=
  if active || s.rstActive then resetState active s else s

/-- One turn of the agent whose turn it is (R7). -/
def takeTurn (t : Turn) (s : State) : Host.Outcome State Fault Refusal :=
  match t with
  | .host => hostTurn s
  | .clk => .next (clockCycle s)
  | .finish m => .next (finishChannel m s)
  | .rst active => .next (resetLine active s)
  | .clkStop => .fault .clockStopped

/-- One step: an invalid configuration is refused (R6); otherwise the next turn of the schedule, and
when the schedule is exhausted a `clk` cycle (log 3). -/
def machineStep (s : State) : Host.Outcome State Fault Refusal :=
  if configValid s.cfg then
    match s.sched with
    | [] => .next (clockCycle s)
    | t :: rest => takeTurn t (s.setSched rest)
  else .refused .invalidConfiguration

/-- The host's very next turn writes `w` to `CMD`: the operation and its turn are placed in front of
what was to come, and `rst` is inactive (log 4). -/
def presentCommand (w : Word) (s : State) : State :=
  { s with rstActive := false, prog := .txn (commandTxn w) :: s.prog, sched := .host :: s.sched }

end Sys2Proof.Machine
end

