-- ==== Sys2Proof/Machine/Step.lean ====
section
/-! DEFINITION. The step of the machine, and how one command word is put in front of it. -/

namespace Sys2Proof.Machine

/-- One step of DSQX and its surroundings. -/
def step (s : State) : Host.Outcome State Fault Refusal := machineStep s

/-- The command word `w` (its low `nbits` bits) as the host's very next bus write, to `CMD`: DSQX
fetches nothing (R73), a command word takes effect only through its write to `CMD` (log 4). -/
def State.withFetchWord (s : State) (nbits w : Nat) : State :=
  presentCommand (BitVec.ofNat 32 (w % 2 ^ nbits)) s

end Sys2Proof.Machine
end

