-- ==== Sys2Proof/Safety.lean ====
section
/-! DEFINITION. What counts as a good state of DSQX, in the terms the statements use, and which turns
and commands may change what. Each clause is a rule of spec/ about the machine as a whole. -/

namespace Sys2Proof.Machine

/-- Nothing has been sent since reset: buffers and read-backs at their reset values, every channel idle
(R39 to R42). -/
abbrev neverSent (s : State) : Prop :=
  s.lastThr = Quad.fill 0 ∧ s.lastFrame = Quad.fill 0
    ∧ s.slotBuf = Quad.fill (Vector.replicate 17 0) ∧ s.chan = Quad.fill .idle

/-- The buffers hold the last throttle values' frames (R39, R40, R41, R165). -/
abbrev buffersCoherent (s : State) : Prop :=
  s.lastFrame = s.lastThr.map (dshotFrame s.cfg.tlm) ∧ s.slotBuf = s.lastFrame.map (slots s.cfg)

/-- A channel engine's `tick` lies in 0..`PERIOD`−1 (R42). -/
def tickInRange (c : Config) : Channel → Bool
  | .idle => true
  | .playing _ tick => decide (tick < c.period.toNat)

/-- Every channel engine's `tick` is in range. -/
abbrev ticksInRange (s : State) : Prop := ∀ m : Motor, tickInRange s.cfg (s.chan.get m) = true

/-- With `TIMED` = true the four channels run in lock step (R169). -/
abbrev lockStep (s : State) : Prop :=
  s.cfg.timed = true → ∀ m : Motor, s.chan.get m = s.chan.m0

/-- While `rst` is active the block is in its reset state (R231). R230 says so then of the channels and the
outputs; that it holds of the registers too is log 9, DESIGN CHOICE. -/
abbrev resetHeld (s : State) : Prop :=
  s.rstActive = true → { s with resp := .idle } = resetState true s

/-- The integrator is never below `−(2^31 − 1)`, the lowest value a clamp to ±`YAW_I_LIMIT` gives (R26,
R113). -/
abbrev integratorSymmetric (s : State) : Prop := -2147483647 ≤ s32 s.yawInteg

/-- The invariant of DSQX. -/
abbrev State.Inv (s : State) : Prop :=
  configValid s.cfg = true ∧ (neverSent s ∨ buffersCoherent s) ∧ ticksInRange s ∧ lockStep s
    ∧ resetHeld s ∧ integratorSymmetric s

/-- A channel that is playing (R42). -/
abbrev busyChannel (s : State) (m : Motor) : Prop := (s.chan.get m).busy = true

/-- The host's next operation is the transaction `x`, the bus accepts it, and it is the host's turn;
`q` and `p` are the turns and the operations that come after (R7, R69). -/
abbrev transactionNext (x : Transaction) (q : List Turn) (p : List HostOp) (s : State) : Prop :=
  configValid s.cfg = true ∧ s.rstActive = false ∧ s.sched = .host :: q ∧ s.prog = .txn x :: p

/-- The state `s` after the turn was taken, the operation issued and the answer given, before the
transaction's own effect. -/
def answered (s : State) (q : List Turn) (p : List HostOp) (r : BusResponse) : State :=
  { s with sched := q, prog := p, resp := r }

/-- The offsets that the map of R22 marks reserved, as it lists them. -/
abbrev reservedOffset (n : Nat) : Prop :=
  (0x008 ≤ n ∧ n ≤ 0x00C) ∨ (0x044 ≤ n ∧ n ≤ 0x04C) ∨ n = 0x07C ∨ (0x0D0 ≤ n ∧ n ≤ 0x0FC)
    ∨ (∃ m : Fin 4, 0x100 + 0x80 * m.val + 0x44 ≤ n ∧ n ≤ 0x100 + 0x80 * m.val + 0x7C)
    ∨ (0x300 ≤ n ∧ n ≤ 0x3FC)

/-- The offsets of the registers that R64 lists as read-only. -/
abbrev readOnlyOffset (n : Nat) : Prop :=
  n = 0x078 ∨ (0x080 ≤ n ∧ n ≤ 0x08C) ∨ n = 0x0A0 ∨ n = 0x0A4 ∨ n = 0x0AC
    ∨ (0x0B0 ≤ n ∧ n ≤ 0x0BC) ∨ (0x0C0 ≤ n ∧ n ≤ 0x0CC)
    ∨ (∃ m : Fin 4, 0x100 + 0x80 * m.val ≤ n ∧ n ≤ 0x100 + 0x80 * m.val + 0x40)

/-- A register whose write stores all 32 bits (R66, "every other RW register"). -/
def plainRegister : Reg → Bool
  | .cmd => false
  | .status => false
  | .yawILimit => false
  | .encIn => false
  | r => !readOnly r

/-- The reference registers that the examples of spec/ use (95_test_vectors.md section 0): gains,
limits, mixer gains and bounds; every estimate and setpoint 0. -/
def referenceRegs : HostRegs :=
  { HostRegs.zero with
    kpRoll := 0x00020000, kdRoll := 0x00008000, kpPitch := 0x00020000, kdPitch := 0x00008000
    kpYaw := 0x00010000, kdYaw := 0x00004000, kiYaw := 0x00002000, yawILimit := 0x000A0000
    mixRoll := 0x00640000, mixPitch := 0x00640000, mixYaw := 0x00320000
    thrustMin := 0x00300000, thrustMax := 0x07FF0000, baseFrac := 0x00008000 }

/-- A command issued `n` times in a row, stopping at the first fault or refusal. -/
def repeatCommand (i : Instr) : Nat → State → Host.Outcome State Fault Refusal
  | 0, s => .next s
  | n + 1, s =>
    match exec i s with
    | .next t => repeatCommand i n t
    | .fault r => .fault r
    | .refused r => .refused r

/-- The next step is the host's write of a legal command word for `i` to `CMD`: the bus accepts it
and nothing stands in front of it (R15, R66, R68). -/
def commandNext (i : Instr) (s : State) : Prop :=
  s.rstActive = false ∧ (∃ q, s.sched = .host :: q)
    ∧ ∃ w p, s.prog = .txn (commandTxn w) :: p ∧ Sys2Proof.decode w = .command i

/-- The next step is `rst` becoming active, or becoming inactive after having been active (R230). -/
def resetNext (s : State) : Prop :=
  ∃ b q, s.sched = .rst b :: q ∧ (b = true ∨ s.rstActive = true)

end Sys2Proof.Machine
end

