-- ==== Sys2Proof/Certificates/Slice0/Obligations.lean ====
section
/-! DEFINITION. The statements about DSQX, from the numbered rules of spec/. Each docstring names the
rules it formalises and, where it rests on a choice of the model, the log entry. -/

open Sys2Proof Sys2Proof.Machine

/-! ### Encoding (30_encoding.md) -/

/-- R80 to R83: decoding a word gives a command exactly when the word is that command's encoding, for
every word and every command with every channel. -/
def Obligations.DecodeEncodeAgree : Prop :=
  ∀ (w : Word) (i : Instr), decode w = .command i ↔ encode i = w

/-- R82: the decoder is the match and mask table, a word that matches no row is illegal, and the rows
are disjoint. -/
def Obligations.DecodeIsMatchAndMask : Prop :=
  ∀ w : Word,
    (decode w = .command .nop ↔ w &&& 0xFFFFFFFF#32 = 0x00000000#32)
    ∧ (decode w = .command .ctrlStep ↔ w &&& 0xFFFFFFFF#32 = 0x00000001#32)
    ∧ (decode w = .command .setThrust ↔ w &&& 0xFFFFFFFF#32 = 0x00000002#32)
    ∧ ((∃ m, decode w = .command (.setMotor m)) ↔ w &&& 0xFFFFFFCF#32 = 0x00000003#32)
    ∧ (decode w = .command .zeroThrust ↔ w &&& 0xFFFFFFFF#32 = 0x00000004#32)
    ∧ (decode w = .command .update ↔ w &&& 0xFFFFFFFF#32 = 0x00000005#32)
    ∧ (decode w = .command .updateAll ↔ w &&& 0xFFFFFFFF#32 = 0x00000006#32)
    ∧ (decode w = .command .clrInteg ↔ w &&& 0xFFFFFFFF#32 = 0x00000007#32)
    ∧ ((∃ why, decode w = .illegal why) ↔
        w ∉ [0x0#32, 0x1#32, 0x2#32, 0x4#32, 0x5#32, 0x6#32, 0x7#32]
          ∧ w &&& 0xFFFFFFCF#32 ≠ 0x00000003#32)

/-- R83: which words are illegal, that there are eleven legal ones, and that writing an illegal word to
`CMD` sets `ILLEGAL`, completes without error and changes nothing else. -/
def Obligations.IllegalWordSetsOnlyIllegal : Prop :=
  (∀ w : Word, (∃ why, decode w = .illegal why) ↔
      8 ≤ (w.extractLsb' 0 4).toNat ∨ w.extractLsb' 6 26 ≠ 0#26
        ∨ (w.extractLsb' 4 2 ≠ 0#2 ∧ w.extractLsb' 0 4 ≠ 3#4))
  ∧ (∀ w : Word, (∃ i, decode w = .command i) ↔
      w ∈ [0x00#32, 0x01#32, 0x02#32, 0x03#32, 0x13#32, 0x23#32, 0x33#32, 0x04#32, 0x05#32, 0x06#32,
        0x07#32])
  ∧ ∀ (s : State) (w : Word) (why : IllegalWord) (q : List Turn) (p : List HostOp),
      transactionNext (commandTxn w) q p s → decode w = .illegal why →
      step s = .next { answered s q p (.written false) with illegal := true }

/-- A few words written out from R82 and R85 decode to the commands they stand for. -/
def Obligations.SampleWordsDecode : Prop :=
  decode 0x00000000#32 = .command .nop ∧ decode 0x00000001#32 = .command .ctrlStep
    ∧ decode 0x00000023#32 = .command (.setMotor 2) ∧ decode 0x00000006#32 = .command .updateAll
    ∧ decodeTableWord 32 0x33 = some (.setMotor 3) ∧ decodeTableWord 32 0x15 = none

/-! ### The step (00_scope.md R6, R7; 20_memory.md R68) -/

/-- When the host's next operation writes the word of a command to `CMD`, the step is `exec` of that
command, after the turn is taken, the operation is issued and the write is answered without error
(R66, R68; how a word comes to stand there is log 4). The same for a word placed by
`withFetchWord`. -/
def Obligations.StepRunsDecodedCommand : Prop :=
  (∀ (s : State) (w : Word) (i : Instr) (q : List Turn) (p : List HostOp),
    transactionNext (commandTxn w) q p s → decode w = .command i →
    step s = exec i (answered s q p (.written false)))
  ∧ ∀ (s : State) (w : Nat) (i : Instr),
    configValid s.cfg = true → decodeTableWord 32 w = some i →
    step (s.withFetchWord 32 w)
      = exec i { answered s s.sched s.prog (.written false) with rstActive := false }

/-- R6: a configuration that is not `0 < C0 < C1 < PERIOD` is refused, and no other is; the reference
configuration is valid with `C1` 15 and `C0` 7; in a valid one some tick tells a 1 bit from a 0 bit,
some tick a 0 bit from the reset slot, and some tick a 1 bit from the reset slot. -/
def Obligations.OnlyInvalidConfigurationRefused : Prop :=
  (∀ s : State,
    ((0 < s.cfg.period.toNat * s.cfg.duty0.toNat / 100
        ∧ s.cfg.period.toNat * s.cfg.duty0.toNat / 100
          < s.cfg.period.toNat * s.cfg.duty1.toNat / 100
        ∧ s.cfg.period.toNat * s.cfg.duty1.toNat / 100 < s.cfg.period.toNat)
      → ∀ r, step s ≠ .refused r)
    ∧ (¬ (0 < s.cfg.period.toNat * s.cfg.duty0.toNat / 100
        ∧ s.cfg.period.toNat * s.cfg.duty0.toNat / 100
          < s.cfg.period.toNat * s.cfg.duty1.toNat / 100
        ∧ s.cfg.period.toNat * s.cfg.duty1.toNat / 100 < s.cfg.period.toNat)
      → step s = .refused .invalidConfiguration))
  ∧ (configValid Config.reference = true ∧ compareOne Config.reference = 15
    ∧ compareZero Config.reference = 7)
  ∧ ∀ (c : Config) (one zero : Frame) (i : SlotIx), configValid c = true → i.val < 16 →
    one.getLsbD (15 - i.val) = true → zero.getLsbD (15 - i.val) = false →
    (∃ t < c.period.toNat, lineLevel (slots c one) i t = true ∧ lineLevel (slots c zero) i t = false)
      ∧ (∃ t < c.period.toNat, lineLevel (slots c zero) i t = true
          ∧ lineLevel (slots c zero) 16 t = false)
      ∧ ∃ t < c.period.toNat, lineLevel (slots c one) i t = true
          ∧ lineLevel (slots c one) 16 t = false

/-- R5 and R6: a valid configuration has every parameter in the range R5 gives it. -/
def Obligations.ValidConfigurationInRange : Prop :=
  ∀ c : Config, configValid c = true →
    3 ≤ c.period.toNat ∧ c.period.toNat ≤ 65535 ∧ c.duty1.toNat ≤ 100 ∧ c.duty0.toNat ≤ 100
      ∧ c.duty0.toNat < c.duty1.toNat ∧ compareOne c < 2 ^ 16

/-- The invariant of DSQX is kept by every step from every state: the configuration stays valid
(R6), the buffers hold the frames of the last throttle values or are untouched since reset (R39 to
R41, R165), ticks stay in range (R42), the channels run in lock step (R169), an active `rst` holds
the reset state (R230; that it holds from the moment `rst` becomes active is the model's choice, log
9), and the integrator stays symmetric (R26, R113). -/
def Obligations.StepKeepsInvariant : Prop :=
  ∀ s t : State, s.Inv → step s = .next t → t.Inv

/-- The reset state of every valid configuration meets the invariant, the machine's own reset state
among them (R231). That the machine's reset configuration is the reference one with `TIMED` = true is
the model's choice (log 2). -/
def Obligations.ResetMeetsInvariant : Prop :=
  (∀ c : Config, configValid c = true → (State.initial c).Inv) ∧ State.reset.Inv

/-! ### Who may change what -/

/-- R208: `FAULT` is cleared only by reset; `SAT` and `ILLEGAL` only by reset or by the host's write of
1 to their bits of `STATUS`; such a write changes nothing else. -/
def Obligations.StickyBitsClearedOnlyAsStated : Prop :=
  (∀ s t : State, step s = .next t → s.fault = true → t.fault = false → resetNext s)
  ∧ (∀ s t : State, step s = .next t → s.sat = true → t.sat = false →
      resetNext s ∨ ∃ v q p, transactionNext (writeTxn 0x004 v) q p s ∧ v.getLsbD 16 = true)
  ∧ (∀ s t : State, step s = .next t → s.illegal = true → t.illegal = false →
      resetNext s ∨ ∃ v q p, transactionNext (writeTxn 0x004 v) q p s ∧ v.getLsbD 17 = true)
  ∧ ∀ (s : State) (v : Word) (q : List Turn) (p : List HostOp),
      transactionNext (writeTxn 0x004 v) q p s →
      step s = .next { answered s q p (.written false) with
        sat := s.sat && !v.getLsbD 16, illegal := s.illegal && !v.getLsbD 17 }

/-- R32: only `CTRL_STEP` and `CLR_INTEG` write `YAW_INTEG`, besides reset (R230, R231). -/
def Obligations.OnlyTwoCommandsWriteIntegrator : Prop :=
  ∀ s t : State, step s = .next t → t.yawInteg ≠ s.yawInteg →
    commandNext .ctrlStep s ∨ commandNext .clrInteg s ∨ resetNext s

/-- R33, R71: only `CTRL_STEP`, `SET_THRUST`, `SET_MOTOR` and `ZERO_THRUST` write ThrustCommand or
`MCLAMP`, besides reset. -/
def Obligations.OnlyFourCommandsWriteThrust : Prop :=
  ∀ s t : State, step s = .next t → (t.thrust ≠ s.thrust ∨ t.mclamp ≠ s.mclamp) →
    commandNext .ctrlStep s ∨ commandNext .setThrust s ∨ (∃ m, commandNext (.setMotor m) s)
      ∨ commandNext .zeroThrust s ∨ resetNext s

/-- R41 (with R39, R40): the slot buffers and the read-backs change only by an `UPDATE` or
`UPDATE_ALL` that finds `FAULT` = 0 and every channel idle, besides reset; so no engine plays a buffer
that is being changed. -/
def Obligations.BuffersChangeOnlyWhileIdle : Prop :=
  ∀ s t : State, step s = .next t →
    (t.slotBuf ≠ s.slotBuf ∨ t.lastThr ≠ s.lastThr ∨ t.lastFrame ≠ s.lastFrame) →
    ((commandNext .update s ∨ commandNext .updateAll s) ∧ s.fault = false
        ∧ ∀ m : Motor, s.chan.get m = .idle)
      ∨ resetNext s

/-- R25 to R31, R34, R37: a register of the host's own changes only by the host's accepted write to a
register that is not read-only and not `CMD`, besides reset. -/
def Obligations.OnlyHostWritesItsRegisters : Prop :=
  ∀ s t : State, step s = .next t → t.regs ≠ s.regs →
    (∃ x q p r, transactionNext x q p s ∧ x.write = true ∧ x.size = 2#2 ∧ x.addr = regOffset r
        ∧ readOnly r = false ∧ r ≠ .cmd)
      ∨ resetNext s

/-- R169, R172, R230: a frame ends at its last tick (`TIMED` = true), at its free finish step (`TIMED` =
false), or by reset, and by nothing else: no command, no fault and no bus access cuts one short. -/
def Obligations.FramesAreNeverCutShort : Prop :=
  ∀ (s t : State) (m : Motor) (i : SlotIx) (k : Nat), step s = .next t →
    s.chan.get m = .playing i k → t.chan.get m = .idle →
    (s.cfg.timed = true ∧ i.val = 16 ∧ s.cfg.period.toNat ≤ k + 1)
      ∨ (s.cfg.timed = false ∧ ∃ q, s.sched = .finish m :: q)
      ∨ resetNext s

/-- R69: a `clk` cycle and a finish step write the channel engines and nothing else, as R169 gives them;
a `clk` cycle also passes when nothing is scheduled (log 3). -/
def Obligations.EnginesWriteOnlyTheirState : Prop :=
  (∀ (s : State) (q : List Turn), configValid s.cfg = true → s.cfg.timed = true →
    s.sched = .clk :: q →
    step s = .next { s with sched := q, chan := s.chan.map (channelTick s.cfg) })
  ∧ (∀ s : State, configValid s.cfg = true → s.cfg.timed = true → s.sched = [] →
    step s = .next { s with chan := s.chan.map (channelTick s.cfg) })
  ∧ (∀ (s : State) (m : Motor) (q : List Turn), configValid s.cfg = true → s.cfg.timed = false →
    s.sched = .finish m :: q →
    step s = .next { s with sched := q, chan := s.chan.set m .idle })
  ∧ (∀ (c : Config) (i : SlotIx) (k : Nat), k + 1 < c.period.toNat →
      channelTick c (.playing i k) = .playing i (k + 1))
  ∧ (∀ (c : Config) (i j : SlotIx) (k : Nat), c.period.toNat ≤ k + 1 → j.val = i.val + 1 →
      channelTick c (.playing i k) = .playing j 0)
  ∧ (∀ (c : Config) (k : Nat), c.period.toNat ≤ k + 1 → channelTick c (.playing 16 k) = .idle)
  ∧ ∀ c : Config, channelTick c .idle = .idle

/-! ### The bus (20_memory.md, 10_state.md) -/

/-- R65: a legal read returns the register's value and changes no state. -/
def Obligations.LegalReadChangesNothing : Prop :=
  ∀ (s : State) (x : Transaction) (r : Reg) (q : List Turn) (p : List HostOp),
    transactionNext x q p s → x.write = false → x.size = 2#2 → x.addr = regOffset r →
    step s = .next (answered s q p (.read (readReg s r) false)) ∧ readReg s .cmd = 0

/-- R203, with R61, R62 and R64: a transaction of another width, a misaligned one, one at a reserved
offset and a write to a read-only register complete with `bus_err` = 1; a rejected read returns 0;
nothing else changes, no `STATUS` bit and no command included. -/
def Obligations.BusErrorChangesNothing : Prop :=
  ∀ (s : State) (x : Transaction) (q : List Turn) (p : List HostOp),
    transactionNext x q p s →
    (x.size ≠ 2#2 ∨ x.addr.toNat % 4 ≠ 0 ∨ reservedOffset x.addr.toNat
      ∨ (x.write = true ∧ readOnlyOffset x.addr.toNat)) →
    step s = .next (answered s q p (if x.write then .written true else .read 0 true))

/-- R22: every register stands at its own offset, and an aligned offset holds a register exactly when the
map does not mark it reserved. -/
def Obligations.RegisterMapIsExact : Prop :=
  (∀ r : Reg, regAt (regOffset r) = some r)
  ∧ (∀ (off : Offset) (r : Reg), regAt off = some r → regOffset r = off)
  ∧ ∀ off : Offset, off.toNat % 4 = 0 → (regAt off = none ↔ reservedOffset off.toNat)

/-- R66 ("every other RW register, all 32 bits") and R67: a plain register reads back the written word,
every other register reads as before, and nothing but the host's registers changes. -/
def Obligations.PlainWriteReadsBack : Prop :=
  ∀ (s : State) (r : Reg) (v : Word) (q : List Turn) (p : List HostOp),
    transactionNext (writeTxn (regOffset r) v) q p s → plainRegister r = true →
    ∃ t, step s = .next t ∧ readReg t r = v ∧ (∀ r', r' ≠ r → readReg t r' = readReg s r')
      ∧ t = { answered s q p (.written false) with regs := t.regs }

/-- R26: a write to `YAW_I_LIMIT` stores `bus_wdata & 0x7FFFFFFF` and nothing else; the register never
reads negative; its reset value 0 forces the integrator to 0 at every `CTRL_STEP`. -/
def Obligations.YawLimitBit31IsHardwired : Prop :=
  (∀ (s : State) (v : Word) (q : List Turn) (p : List HostOp),
    transactionNext (writeTxn 0x02C v) q p s →
    ∃ t, step s = .next t ∧ readReg t .yawILimit = v &&& 0x7FFFFFFF#32
      ∧ (∀ r, r ≠ .yawILimit → readReg t r = readReg s r)
      ∧ t = { answered s q p (.written false) with regs := t.regs })
  ∧ (∀ s : State, 0 ≤ s32 (readReg s .yawILimit))
  ∧ (0xFFF60000#32 &&& 0x7FFFFFFF#32 = 0x7FF60000#32)
  ∧ (∀ c : Config, readReg (State.initial c) .yawILimit = 0)
  ∧ ∀ s : State, readReg s .yawILimit = 0 → ∃ t, exec .ctrlStep s = .next t ∧ t.yawInteg = 0

/-- R37, R38: a write to `ENC_IN` stores `bus_wdata & 0x7FF`, `ENC_FRAME` always reads
`dshot_frame(ENC_IN[10:0])`, and the probe changes nothing else. -/
def Obligations.EncoderProbe : Prop :=
  (∀ (s : State) (v : Word) (q : List Turn) (p : List HostOp),
    transactionNext (writeTxn 0x0A8 v) q p s →
    ∃ t, step s = .next t ∧ readReg t .encIn = v &&& 0x7FF#32
      ∧ (∀ r, r ≠ .encIn → r ≠ .encFrame → readReg t r = readReg s r)
      ∧ t = { answered s q p (.written false) with regs := t.regs })
  ∧ (∀ s : State, readReg s .encFrame
      = (dshotFrame s.cfg.tlm ((readReg s .encIn).extractLsb' 0 11)).setWidth 32)
  ∧ ∀ c : Config, readReg (State.initial c) .encIn = 0
      ∧ readReg (State.initial c) .encFrame = if c.tlm = 0#1 then 0x0000#32 else 0x0011#32

/-- R24: the fields of `STATUS`, bit by bit, and what a write to it clears: `SAT` and `ILLEGAL` where
their bits are 1, every other bit ignored. -/
def Obligations.StatusFieldsAndClear : Prop :=
  (∀ (s : State) (m : Motor),
    (readReg s .status).getLsbD m.val = (s.chan.get m).busy
      ∧ (readReg s .status).getLsbD (4 + m.val) = s.mclamp.get m)
  ∧ (∀ s : State, (readReg s .status).getLsbD 8 = s.iclamp
      ∧ (readReg s .status).getLsbD 16 = s.sat ∧ (readReg s .status).getLsbD 17 = s.illegal
      ∧ (readReg s .status).getLsbD 24 = s.fault
      ∧ readReg s .status &&& 0xFEFCFE00#32 = 0)
  ∧ ∀ (s : State) (v : Word) (q : List Turn) (p : List HostOp),
      transactionNext (writeTxn 0x004 v) q p s →
      ∃ t, step s = .next t ∧ readReg t .status = readReg s .status &&& ~~~(v &&& 0x00030000#32)
        ∧ ∀ r, r ≠ .status → readReg t r = readReg s r

/-- R35, R36: the fields of `DSHOT_CFG` and `DSHOT_CMP`, that no step changes them, and the value in the
reference configuration. -/
def Obligations.ParameterRegistersAreConstant : Prop :=
  (∀ s : State, (readReg s .dshotCfg).extractLsb' 0 16 = s.cfg.period
      ∧ (readReg s .dshotCfg).extractLsb' 16 7 = s.cfg.duty1
      ∧ (readReg s .dshotCfg).getLsbD 23 = false
      ∧ (readReg s .dshotCfg).extractLsb' 24 7 = s.cfg.duty0
      ∧ (readReg s .dshotCfg).extractLsb' 31 1 = s.cfg.tlm)
  ∧ (∀ s : State, configValid s.cfg = true →
      ((readReg s .dshotCmp).extractLsb' 0 16).toNat
          = s.cfg.period.toNat * s.cfg.duty0.toNat / 100
      ∧ ((readReg s .dshotCmp).extractLsb' 16 16).toNat
          = s.cfg.period.toNat * s.cfg.duty1.toNat / 100)
  ∧ (∀ s t : State, step s = .next t →
      t.cfg = s.cfg ∧ readReg t .dshotCfg = readReg s .dshotCfg
        ∧ readReg t .dshotCmp = readReg s .dshotCmp)
  ∧ readReg State.reset .dshotCfg = 0x254B0014#32 ∧ readReg State.reset .dshotCmp = 0x000F0007#32

/-- R231: what every register reads after reset, that every channel is idle and every output low. -/
def Obligations.ResetRegisterValues : Prop :=
  ∀ c : Config,
    (∀ r : Reg, readReg (State.initial c) r =
      match r with
      | .dshotCfg => dshotCfgWord c
      | .dshotCmp => dshotCmpWord c
      | .encFrame => (dshotFrame c.tlm 0).setWidth 32
      | _ => 0)
    ∧ ∀ m : Motor, (State.initial c).chan.get m = .idle ∧ dshotOut (State.initial c) m = some false

/-- R230: `rst` becoming active makes every channel idle and every output low at once, a frame on the
wire included; while it is active a transaction is not accepted and stays the host's next; becoming
inactive leaves the reset state. That every register too is at its reset value from the moment `rst`
becomes active, that what is outside the block stays, and how a stalled transaction is answered are
the model's choices (log 8, log 9). -/
def Obligations.ResetHoldsTheBlock : Prop :=
  (∀ (s : State) (q : List Turn), configValid s.cfg = true → s.sched = .rst true :: q →
    ∃ t, step s = .next t
      ∧ t = { State.initial s.cfg with rstActive := true, prog := s.prog, sched := q }
      ∧ ∀ m : Motor, dshotOut t m = some false)
  ∧ (∀ (s : State) (x : HostOp) (q : List Turn) (p : List HostOp), configValid s.cfg = true →
    s.rstActive = true → s.sched = .host :: q → s.prog = x :: p →
    step s = .next { s with sched := q, resp := .stalled })
  ∧ ∀ (s : State) (q : List Turn), configValid s.cfg = true → s.rstActive = true →
    s.sched = .rst false :: q →
    step s = .next { State.initial s.cfg with prog := s.prog, sched := q }

/-! ### Arithmetic (00_scope.md R12 to R14) -/

/-- R12, R13: each saturating operation gives the exact result without a flag where it fits 32 bits
signed, and otherwise the nearer end of the range with the flag; `qmul` rounds its exact product
toward minus infinity. With the examples of R13. -/
def Obligations.FixedPointIsExactOrSaturates : Prop :=
  (∀ a b : Int, ((qadd a b).sat = false ∧ (qadd a b).val = a + b ∧ -2 ^ 31 ≤ a + b ∧ a + b < 2 ^ 31)
      ∨ ((qadd a b).sat = true ∧ a + b < -2 ^ 31 ∧ (qadd a b).val = -2 ^ 31)
      ∨ ((qadd a b).sat = true ∧ 2 ^ 31 ≤ a + b ∧ (qadd a b).val = 2 ^ 31 - 1))
  ∧ (∀ a b : Int, ((qsub a b).sat = false ∧ (qsub a b).val = a - b ∧ -2 ^ 31 ≤ a - b ∧ a - b < 2 ^ 31)
      ∨ ((qsub a b).sat = true ∧ a - b < -2 ^ 31 ∧ (qsub a b).val = -2 ^ 31)
      ∨ ((qsub a b).sat = true ∧ 2 ^ 31 ≤ a - b ∧ (qsub a b).val = 2 ^ 31 - 1))
  ∧ (∀ a b : Int, ((qmul a b).sat = false ∧ 2 ^ 16 * (qmul a b).val ≤ a * b
        ∧ a * b < 2 ^ 16 * ((qmul a b).val + 1) ∧ -2 ^ 31 ≤ (qmul a b).val
        ∧ (qmul a b).val < 2 ^ 31)
      ∨ ((qmul a b).sat = true ∧ a * b < 2 ^ 16 * (-2 ^ 31) ∧ (qmul a b).val = -2 ^ 31)
      ∨ ((qmul a b).sat = true ∧ 2 ^ 16 * 2 ^ 31 ≤ a * b ∧ (qmul a b).val = 2 ^ 31 - 1))
  ∧ qmul (s32 0x00008000#32) (s32 0x00000001#32) = ⟨0, false⟩
  ∧ qmul (s32 0xFFFFFFFF#32) (s32 0x00000001#32) = ⟨-1, false⟩
  ∧ qmul (s32 0x80000000#32) (s32 0x80000000#32) = ⟨2 ^ 31 - 1, true⟩

/-- R14: `clamp(x, lo, hi) = min(max(x, lo), hi)`, within the bounds when they are ordered and `hi` for
every `x` when `lo > hi`. -/
def Obligations.ClampBounds : Prop :=
  ∀ x lo hi : Int, clamp x lo hi = min (max x lo) hi
    ∧ (lo ≤ hi → lo ≤ clamp x lo hi ∧ clamp x lo hi ≤ hi ∧ (lo ≤ x → x ≤ hi → clamp x lo hi = x))
    ∧ (hi < lo → clamp x lo hi = hi)

/-! ### The control law (41_control_law.md) -/

/-- R110 (with R111 to R118): `CTRL_STEP` completes in every state, with the values of R110's
pseudocode, and writes `YAW_INTEG`, ThrustCommand, `MCLAMP`, `ICLAMP` and `SAT` only. With the
example of R110. -/
def Obligations.CtrlStepComputesControlLaw : Prop :=
  (∀ s : State, s.yawInteg = 0 → s.regs = { referenceRegs with
      spRoll := 0x00008000, estRoll := 0x00004000, estRollRate := 0x00002000 } →
    ∃ t, exec .ctrlStep s = .next t
      ∧ t.thrust = ⟨0x04434000#32, 0x03EBC000#32, 0x03EBC000#32, 0x04434000#32⟩)
  ∧ ∀ s : State,
    let eR := qsub (s32 s.regs.spRoll) (s32 s.regs.estRoll)
    let eP := qsub (s32 s.regs.spPitch) (s32 s.regs.estPitch)
    let eY := qsub (s32 s.regs.spYaw) (s32 s.regs.estYaw)
    let pR := qmul (s32 s.regs.kpRoll) eR.val
    let dR := qmul (s32 s.regs.kdRoll) (s32 s.regs.estRollRate)
    let uR := qsub pR.val dR.val
    let pP := qmul (s32 s.regs.kpPitch) eP.val
    let dP := qmul (s32 s.regs.kdPitch) (s32 s.regs.estPitchRate)
    let uP := qsub pP.val dP.val
    let iY := qmul (s32 s.regs.kiYaw) eY.val
    let acc := qadd (s32 s.yawInteg) iY.val
    let limit : Int := s32 (readReg s .yawILimit)
    let iNew := clamp acc.val (-limit) limit
    let pY := qmul (s32 s.regs.kpYaw) eY.val
    let dY := qmul (s32 s.regs.kdYaw) (s32 s.regs.estYawRate)
    let pdY := qsub pY.val dY.val
    let uY := qadd pdY.val iNew
    let mR := qmul (s32 s.regs.mixRoll) uR.val
    let mP := qmul (s32 s.regs.mixPitch) uP.val
    let mY := qmul (s32 s.regs.mixYaw) uY.val
    let f := clamp (s32 s.regs.baseFrac) 0 0x00010000
    let span := qsub (s32 s.regs.thrustMax) (s32 s.regs.thrustMin)
    let above := qmul f span.val
    let base := qadd (s32 s.regs.thrustMin) above.val
    let s0 := base.val + mR.val + mP.val - mY.val
    let s1 := base.val - mR.val + mP.val + mY.val
    let s2 := base.val - mR.val - mP.val - mY.val
    let s3 := base.val + mR.val - mP.val + mY.val
    let bound := fun x : Int => clamp x (s32 s.regs.thrustMin) (s32 s.regs.thrustMax)
    let flag := eR.sat || eP.sat || eY.sat || pR.sat || dR.sat || uR.sat || pP.sat || dP.sat || uP.sat
      || iY.sat || acc.sat || pY.sat || dY.sat || pdY.sat || uY.sat || mR.sat || mP.sat || mY.sat
      || span.sat || above.sat || base.sat
    exec .ctrlStep s = .next { s with
      yawInteg := u32 iNew
      thrust := ⟨u32 (bound s0), u32 (bound s1), u32 (bound s2), u32 (bound s3)⟩
      mclamp := ⟨decide (bound s0 ≠ s0), decide (bound s1 ≠ s1), decide (bound s2 ≠ s2),
        decide (bound s3 ≠ s3)⟩
      iclamp := decide (iNew ≠ acc.val)
      sat := s.sat || flag }

/-- R143: what bounds a thrust obeys after each of its writers, that a later write of a bound does not
re-clamp it, and that the throttle derived from it lies in 0..2047. -/
def Obligations.ThrustBoundsPerWriter : Prop :=
  (∀ (s : State) (m : Motor), ∃ t, exec .ctrlStep s = .next t
    ∧ (s32 s.regs.thrustMin ≤ s32 s.regs.thrustMax →
        s32 s.regs.thrustMin ≤ s32 (t.thrust.get m) ∧ s32 (t.thrust.get m) ≤ s32 s.regs.thrustMax)
    ∧ (s32 s.regs.thrustMax < s32 s.regs.thrustMin → t.thrust.get m = s.regs.thrustMax))
  ∧ (∀ (s : State) (m : Motor), ∃ t, exec .setThrust s = .next t
    ∧ s32 (t.thrust.get m) ≤ s32 s.regs.thrustMax)
  ∧ (∀ (s : State) (m : Motor), ∃ t, exec (.setMotor m) s = .next t
    ∧ s32 (t.thrust.get m) ≤ s32 s.regs.thrustMax)
  ∧ (∀ (s : State) (m : Motor), ∃ t, exec .zeroThrust s = .next t ∧ t.thrust.get m = 0)
  ∧ (∀ (c : Config) (m : Motor), (State.initial c).thrust.get m = 0)
  ∧ (∀ (s t : State) (v : Word) (q : List Turn) (p : List HostOp),
    (transactionNext (writeTxn 0x03C v) q p s ∨ transactionNext (writeTxn 0x040 v) q p s) →
    step s = .next t → t.thrust = s.thrust)
  ∧ ∀ x : Word, 0 ≤ ((throttle x).toNat : Int) ∧ ((throttle x).toNat : Int) ≤ 2047

/-- R32 and R113: after `CTRL_STEP` the integrator lies within ±`YAW_I_LIMIT`, and `ICLAMP` says exactly
whether the accumulated value lay outside; after `CLR_INTEG` it is 0. -/
def Obligations.IntegratorStaysWithinLimit : Prop :=
  (∀ s : State, ∃ t, exec .ctrlStep s = .next t
    ∧ -s32 (readReg s .yawILimit) ≤ s32 t.yawInteg ∧ s32 t.yawInteg ≤ s32 (readReg s .yawILimit)
    ∧ (t.iclamp = false → s32 t.yawInteg = (qadd (s32 s.yawInteg)
        (qmul (s32 s.regs.kiYaw) (qsub (s32 s.regs.spYaw) (s32 s.regs.estYaw)).val).val).val)
    ∧ (t.iclamp = true → s32 t.yawInteg = s32 (readReg s .yawILimit)
        ∨ s32 t.yawInteg = -s32 (readReg s .yawILimit)))
  ∧ ∀ s : State, ∃ t, exec .clrInteg s = .next t ∧ s32 t.yawInteg = 0

/-- R120 item 2: with every error, every rate and the integrator 0, all four thrusts are the clamped base
thrust, and the base thrust itself when `THRUST_MIN ≤ THRUST_MAX` and their difference does not
saturate. -/
def Obligations.ZeroErrorGivesBaseThrust : Prop :=
  ∀ s : State, s.regs.spRoll = s.regs.estRoll → s.regs.spPitch = s.regs.estPitch →
    s.regs.spYaw = s.regs.estYaw → s.regs.estRollRate = 0 → s.regs.estPitchRate = 0 →
    s.regs.estYawRate = 0 → s.yawInteg = 0 →
    ∃ t, exec .ctrlStep s = .next t ∧ t.yawInteg = 0 ∧ ∀ m : Motor,
      s32 (t.thrust.get m)
          = clamp (baseThrust s).val (s32 s.regs.thrustMin) (s32 s.regs.thrustMax)
      ∧ (s32 s.regs.thrustMin ≤ s32 s.regs.thrustMax →
          s32 s.regs.thrustMax - s32 s.regs.thrustMin < 2 ^ 31 →
          s32 (t.thrust.get m) = s32 s.regs.thrustMin
            + clamp (s32 s.regs.baseFrac) 0 0x00010000
              * (s32 s.regs.thrustMax - s32 s.regs.thrustMin) / 2 ^ 16)

/-- R115: the base thrust is computed from the clamped fraction; a fraction outside [0, 1.0] acts as the
nearer end; with ordered bounds whose difference does not saturate it lies between them. -/
def Obligations.BaseThrustBetweenBounds : Prop :=
  ∀ s : State,
    baseThrust s = qadd (s32 s.regs.thrustMin) (qmul (clamp (s32 s.regs.baseFrac) 0 0x00010000)
        (qsub (s32 s.regs.thrustMax) (s32 s.regs.thrustMin)).val).val
    ∧ (s32 s.regs.thrustMin ≤ s32 s.regs.thrustMax →
        s32 s.regs.thrustMax - s32 s.regs.thrustMin < 2 ^ 31 →
        s32 s.regs.thrustMin ≤ (baseThrust s).val ∧ (baseThrust s).val ≤ s32 s.regs.thrustMax
        ∧ (s32 s.regs.baseFrac ≤ 0 → (baseThrust s).val = s32 s.regs.thrustMin)
        ∧ (0x00010000 ≤ s32 s.regs.baseFrac → (baseThrust s).val = s32 s.regs.thrustMax))

/-- R116: the four sums have the source's signs, and each lies within ±2^33. -/
def Obligations.MixerSumsAreExact : Prop :=
  ∀ s : State,
    (motorSum s 0 = (baseThrust s).val + (deltaRoll s).val + (deltaPitch s).val - (deltaYaw s).val
    ∧ motorSum s 1 = (baseThrust s).val - (deltaRoll s).val + (deltaPitch s).val + (deltaYaw s).val
    ∧ motorSum s 2 = (baseThrust s).val - (deltaRoll s).val - (deltaPitch s).val - (deltaYaw s).val
    ∧ motorSum s 3 = (baseThrust s).val + (deltaRoll s).val - (deltaPitch s).val + (deltaYaw s).val)
    ∧ ∀ m : Motor, -2 ^ 33 ≤ motorSum s m ∧ motorSum s m ≤ 2 ^ 33

/-- R120 item 3: from an empty integrator, with a constant contribution `k` and no saturation, `n`
invocations of `CTRL_STEP` leave `YAW_INTEG` at `n · k` clamped to ±`YAW_I_LIMIT`: it moves by `k` per
step until it reaches the limit exactly, and stays there. -/
def Obligations.IntegratorRampsToLimit : Prop :=
  ∀ (s : State) (n : Nat),
    let k := (qmul (s32 s.regs.kiYaw) (qsub (s32 s.regs.spYaw) (s32 s.regs.estYaw)).val).val
    let limit := s32 (readReg s .yawILimit)
    s.yawInteg = 0 → k + limit < 2 ^ 31 → -2 ^ 31 ≤ k - limit →
    ∃ t, repeatCommand .ctrlStep n s = .next t ∧ s32 t.yawInteg = clamp (n * k) (-limit) limit

/-- R232 and R120 item 4: in the reset state of every configuration every command completes:
`CTRL_STEP`, `SET_THRUST`, `SET_MOTOR`, `ZERO_THRUST`, `CLR_INTEG` and `NOP` leave that very state, and
`UPDATE` and `UPDATE_ALL` send throttle 0 on all four channels. -/
def Obligations.CommandsAreSafeFromReset : Prop :=
  ∀ c : Config,
    exec .ctrlStep (State.initial c) = .next (State.initial c)
    ∧ exec .setThrust (State.initial c) = .next (State.initial c)
    ∧ (∀ m, exec (.setMotor m) (State.initial c) = .next (State.initial c))
    ∧ exec .zeroThrust (State.initial c) = .next (State.initial c)
    ∧ exec .clrInteg (State.initial c) = .next (State.initial c)
    ∧ exec .nop (State.initial c) = .next (State.initial c)
    ∧ ∃ t, exec .update (State.initial c) = .next t ∧ exec .updateAll (State.initial c) = .next t
      ∧ t.fault = false ∧ ∀ m : Motor, t.lastThr.get m = 0 ∧ t.lastFrame.get m = dshotFrame c.tlm 0
          ∧ (t.chan.get m).busy = true

/-- R119: `CLR_INTEG` completes in every state, empties the integrator, clears `ICLAMP` and changes
nothing else; its word is 7. -/
def Obligations.ClrIntegEmptiesIntegrator : Prop :=
  decode 0x00000007#32 = .command .clrInteg
  ∧ ∀ s : State, exec .clrInteg s = .next { s with yawInteg := 0, iclamp := false }

/-! ### ThrustCommand (42_thrust_command.md) and NOP -/

/-- R101: `NOP` completes in every state and changes nothing; its word is 0, and the same opcode with
`CH` = 1 is illegal. -/
def Obligations.NopChangesNothing : Prop :=
  decode 0x00000000#32 = .command .nop ∧ decode 0x00000010#32 = .illegal .channelNotZero
  ∧ ∀ s : State, exec .nop s = .next s

/-- R140: `SET_THRUST` completes in every state; each thrust becomes its staged value under the upper
bound `THRUST_MAX`, `MCLAMP` says which were changed, nothing else changes, and a second `SET_THRUST`
writes the same tuple again. With the example of R140. -/
def Obligations.SetThrustBoundsStagedTuple : Prop :=
  (decode 0x00000002#32 = .command .setThrust)
  ∧ (∀ s : State, ∃ t, exec .setThrust s = .next t
    ∧ (∀ m : Motor,
        s32 (t.thrust.get m) = min (s32 (readReg s (.stage m))) (s32 (readReg s .thrustMax))
        ∧ (t.mclamp.get m = true ↔ t.thrust.get m ≠ readReg s (.stage m)))
    ∧ t = { s with thrust := t.thrust, mclamp := t.mclamp }
    ∧ exec .setThrust t = .next t)
  ∧ ∀ s : State, s.regs.stage = ⟨0x00640000#32, 0x0BB80000#32, 0xFFFB0000#32, 0x07FF0000#32⟩ →
      s.regs.thrustMax = 0x07FF0000#32 →
      exec .setThrust s = .next { s with
        thrust := ⟨0x00640000#32, 0x07FF0000#32, 0xFFFB0000#32, 0x07FF0000#32⟩
        mclamp := ⟨false, true, false, false⟩ }

/-- R141: `SET_MOTOR` with channel `m` completes in every state; it writes `THRUSTm` under the upper bound
and `MCLAMP[m]`; the other three motors and every other piece of state keep their values. -/
def Obligations.SetMotorWritesOneMotor : Prop :=
  (decode 0x00000003#32 = .command (.setMotor 0) ∧ decode 0x00000013#32 = .command (.setMotor 1)
    ∧ decode 0x00000023#32 = .command (.setMotor 2) ∧ decode 0x00000033#32 = .command (.setMotor 3))
  ∧ ∀ (s : State) (m : Motor), ∃ t, exec (.setMotor m) s = .next t
    ∧ s32 (t.thrust.get m) = min (s32 (readReg s (.stage m))) (s32 (readReg s .thrustMax))
    ∧ (t.mclamp.get m = true ↔ t.thrust.get m ≠ readReg s (.stage m))
    ∧ (∀ n : Motor, n ≠ m → t.thrust.get n = s.thrust.get n ∧ t.mclamp.get n = s.mclamp.get n)
    ∧ t = { s with thrust := t.thrust, mclamp := t.mclamp }

/-- R142: `ZERO_THRUST` completes in every state, writes exactly 0 to all four thrusts and clears
`MCLAMP`; nothing else changes. -/
def Obligations.ZeroThrustForcesZero : Prop :=
  decode 0x00000004#32 = .command .zeroThrust
  ∧ ∀ s : State, exec .zeroThrust s
      = .next { s with thrust := ⟨0, 0, 0, 0⟩, mclamp := ⟨false, false, false, false⟩ }

/-! ### The encoder (43_dshot_encoder.md) -/

/-- R160: the throttle of a thrust is its integer part saturated to 0..2047: 0 for every negative thrust,
2047 from 2047.0 on, and rounded down in between. With the examples of R160. -/
def Obligations.ThrottleRoundsDownAndSaturates : Prop :=
  (∀ x : Word, ((throttle x).toNat : Int) = clamp (s32 x / 2 ^ 16) 0 2047)
  ∧ (∀ x : Word, s32 x < 0 → throttle x = 0#11)
  ∧ (∀ x : Word, 2047 * 2 ^ 16 ≤ s32 x → throttle x = 2047#11)
  ∧ (∀ x : Word, 0 ≤ s32 x → s32 x < 2047 * 2 ^ 16 →
      2 ^ 16 * ((throttle x).toNat : Int) ≤ s32 x
        ∧ s32 x < 2 ^ 16 * (((throttle x).toNat : Int) + 1))
  ∧ throttle 0x04178000#32 = 1047#11 ∧ throttle 0x07FF0000#32 = 2047#11
  ∧ throttle 0x08000000#32 = 2047#11

/-- R161 to R163: the frame of every throttle value and telemetry bit is the throttle, the telemetry bit
and their checksum. With the examples of R163. That a receiver accepts it is R173's. -/
def Obligations.EveryFrameValidates : Prop :=
  (∀ (tlm : BitVec 1) (thr : Throttle), frameAccepted (dshotFrame tlm thr) = true
    ∧ (dshotFrame tlm thr).extractLsb' 5 11 = thr ∧ (dshotFrame tlm thr).extractLsb' 4 1 = tlm
    ∧ (dshotFrame tlm thr).extractLsb' 0 4
        = (dshotFrame tlm thr).extractLsb' 12 4 ^^^ (dshotFrame tlm thr).extractLsb' 8 4
          ^^^ (dshotFrame tlm thr).extractLsb' 4 4)
  ∧ dshotFrame 0 0#11 = 0x0000#16 ∧ dshotFrame 0 48#11 = 0x0606#16
  ∧ dshotFrame 0 1046#11 = 0x82C6#16 ∧ dshotFrame 0 2047#11 = 0xFFEE#16

/-- R173: flipping any one bit of an accepted frame makes it fail the check; flipping the same bit
position of two different nibbles passes it. -/
def Obligations.SingleBitErrorsAreDetected : Prop :=
  (∀ (fr : Frame) (k : Fin 16), frameAccepted fr = true →
    frameAccepted (fr ^^^ (1#16 <<< k.val)) = false)
  ∧ ∀ (fr : Frame) (b a c : Fin 4), frameAccepted fr = true → a ≠ c →
    frameAccepted (fr ^^^ (1#16 <<< (4 * a.val + b.val)) ^^^ (1#16 <<< (4 * c.val + b.val))) = true

/-- R173 with R165 and R170: in a valid configuration a receiver that measures the high time of each bit
slot of a frame's buffer recovers the frame. -/
def Obligations.ReceiverRecoversFrame : Prop :=
  ∀ (c : Config) (fr : Frame), configValid c = true →
    receiveFrame c (highTime c (slots c fr)) = some fr

/-- R164, R165: slot `i` of a buffer carries frame bit `15 − i` as `C1` or `C0`, most significant bit
first, slot 16 is 0; and no compare value overflows its 16 bits in a valid configuration. With the
example of R165. -/
def Obligations.SlotsCarryFrameBits : Prop :=
  (∀ (c : Config) (fr : Frame) (i : SlotIx), configValid c = true → i.val < 16 →
    (slots c fr)[i].toNat = if fr.getLsbD (15 - i.val) then c.period.toNat * c.duty1.toNat / 100
      else c.period.toNat * c.duty0.toNat / 100)
  ∧ (∀ (c : Config) (fr : Frame), (slots c fr)[(16 : SlotIx)] = 0#16)
  ∧ slots Config.reference 0x82C6#16
      = #v[15#16, 7#16, 7#16, 7#16, 7#16, 7#16, 15#16, 7#16, 15#16, 15#16, 7#16, 7#16, 7#16, 15#16,
        15#16, 7#16, 0#16]

/-! ### Transmission (43_dshot_encoder.md) -/

/-- R167, R168: with `FAULT` = 0 and every channel idle, `UPDATE` and `UPDATE_ALL` complete: each channel's
throttle, frame and buffer are those of its thrust, all four engines start at tick 0 of slot 0, and
nothing else changes. -/
def Obligations.UpdateStartsAllChannels : Prop :=
  ∀ s : State, s.fault = false → (∀ m : Motor, s.chan.get m = .idle) →
    ∃ t, exec .update s = .next t ∧ exec .updateAll s = .next t
      ∧ (∀ m : Motor, t.lastThr.get m = throttle (s.thrust.get m)
        ∧ t.lastFrame.get m = dshotFrame s.cfg.tlm (throttle (s.thrust.get m))
        ∧ t.slotBuf.get m = slots s.cfg (dshotFrame s.cfg.tlm (throttle (s.thrust.get m)))
        ∧ t.chan.get m = .playing 0 0)
      ∧ t = { s with lastThr := t.lastThr, lastFrame := t.lastFrame, slotBuf := t.slotBuf
                     chan := t.chan }

/-- R202: with `FAULT` = 0 and some channel busy, `UPDATE` and `UPDATE_ALL` set `FAULT` and do nothing
else. -/
def Obligations.UpdateWhileBusyIsStartFailure : Prop :=
  ∀ (s : State) (m : Motor), s.fault = false → busyChannel s m →
    exec .update s = .next { s with fault := true }
      ∧ exec .updateAll s = .next { s with fault := true }

/-- R172: once `FAULT` is set, `UPDATE` and `UPDATE_ALL` have no effect at all. -/
def Obligations.UpdateAfterFaultHasNoEffect : Prop :=
  ∀ s : State, s.fault = true → exec .update s = .next s ∧ exec .updateAll s = .next s

/-- R168: `UPDATE_ALL` is `UPDATE` in every state, under its own word. -/
def Obligations.UpdateAllIsUpdate : Prop :=
  decode 0x00000005#32 = .command .update ∧ decode 0x00000006#32 = .command .updateAll
  ∧ ∀ s : State, exec .updateAll s = exec .update s

/-- R169, R170, R238: a successful `UPDATE` puts exactly the frame of each thrust on its line. In the
state after `n` `clk` cycles, for every `n`: below `17 × PERIOD` each channel is busy at tick `n mod
PERIOD` of slot `n div PERIOD`, and its line is high exactly while that tick is below the slot's
compare value; from `17 × PERIOD` on every channel is idle and every line low. That a `clk` cycle passes
when nothing is scheduled is the model's choice (log 3), and so is the counting of cycles (log 18). -/
def Obligations.UpdatePutsFrameOnTheWire : Prop :=
  ∀ (s : State) (w : Word) (p : List HostOp) (n : Nat),
    transactionNext (commandTxn w) [] p s → (w = 0x00000005#32 ∨ w = 0x00000006#32) →
    s.cfg.timed = true → s.fault = false → (∀ m : Motor, s.chan.get m = .idle) →
    ∃ t : State, Host.Core.run Sys2Proof.core (n + 1) s = .next t
      ∧ ∀ m : Motor,
        (n < 17 * s.cfg.period.toNat →
          ∃ i : SlotIx, i.val = n / s.cfg.period.toNat
            ∧ t.chan.get m = .playing i (n % s.cfg.period.toNat)
            ∧ dshotOut t m = some (decide (n % s.cfg.period.toNat
                < (slotValue s.cfg (dshotFrame s.cfg.tlm (throttle (s.thrust.get m))) i.val).toNat)))
        ∧ (17 * s.cfg.period.toNat ≤ n → t.chan.get m = .idle ∧ dshotOut t m = some false)

/-- R206, R234: with `TIMED` = false an `UPDATE` while a channel is still sending may meet a busy or an
idle channel, and both outcomes are admitted: with the host's turn first it is a start failure, and
with the four finish steps first it succeeds. The order as a list of turns is the model's (log 3,
log 5). -/
def Obligations.UntimedUpdateAdmitsBothOutcomes : Prop :=
  ∀ (s : State) (m : Motor) (p : List HostOp) (q : List Turn), configValid s.cfg = true →
    s.cfg.timed = false → s.rstActive = false → s.fault = false → busyChannel s m →
    s.prog = .txn (commandTxn 0x00000005) :: p →
    (s.sched = .host :: q → ∃ t, step s = .next t ∧ t.fault = true ∧ t.chan = s.chan)
    ∧ (s.sched = .finish 0 :: .finish 1 :: .finish 2 :: .finish 3 :: .host :: q →
        ∃ t : State, Host.Core.run Sys2Proof.core 5 s = .next t ∧ t.fault = false
          ∧ ∀ n : Motor, t.chan.get n = .playing 0 0)

/-- R102, R200, R207: no command, no bus access and no error event stops the machine; in a valid
configuration the step stops exactly when `clk` stops, which is the model's reading of
93_implementation_defined.md's `stuck` (log 10). -/
def Obligations.OnlyAStoppedClockStops : Prop :=
  ∀ s : State, configValid s.cfg = true →
    ((∃ q, s.sched = .clkStop :: q) → step s = .fault .clockStopped)
    ∧ ((∀ q, s.sched ≠ .clkStop :: q) → ∃ t, step s = .next t)

/-! ### Frames of the commands on the bus, and the host (30_encoding.md R85, R86) -/

/-- R33, R41, R71, R100 and the rule of each command (R101, R110, R119, R140 to R142, R167, R168): a
register that a command's rule does not name as written reads after the command what it read before
(`STATUS` apart, whose fields the statements of the single commands give), for every command that
gives a next state. -/
def Obligations.CommandsWriteOnlyNamedRegisters : Prop :=
  ∀ (i : Instr) (s t : State) (r : Reg), exec i s = .next t → r ≠ .status →
    (match i, r with
      | .ctrlStep, .yawInteg => False
      | .ctrlStep, .thrust _ => False
      | .setThrust, .thrust _ => False
      | .setMotor m, .thrust n => n ≠ m
      | .zeroThrust, .thrust _ => False
      | .update, .lastThr _ => False
      | .update, .lastFrame _ => False
      | .update, .slot _ _ => False
      | .updateAll, .lastThr _ => False
      | .updateAll, .lastFrame _ => False
      | .updateAll, .slot _ _ => False
      | .clrInteg, .yawInteg => False
      | _, _ => True) →
    readReg t r = readReg s r

/-- R85: what the lines of a host program assemble to. A literal `q(x)` with `x` a multiple of 2^-16 in
the range of R9 is the raw word of `x`, that is `x · 2^16`. That `x` is a fraction of two integers, and
that the assembler refuses every other literal, are the model's reading of R85's "must be" (log 16). -/
def Obligations.HostLinesAssemble : Prop :=
  (∀ (r : Reg) (v : Word), assembleLine (.wr r (.hex v))
      = some [.txn { write := true, addr := regOffset r, size := 2#2, wdata := v }])
  ∧ (∀ r : Reg, ∃ d, assembleLine (.rd r)
      = some [.txn { write := false, addr := regOffset r, size := 2#2, wdata := d }])
  ∧ (∀ i : Instr, assembleLine (.command i)
      = some [.txn { write := true, addr := 0x000#10, size := 2#2, wdata := encode i }])
  ∧ (∀ m : Motor, encode (.setMotor m) = 0x00000003#32 ||| (BitVec.ofNat 32 m.val <<< 4))
  ∧ valueRaw (.q 3 2) = 0x00018000#32 ∧ valueRaw (.q (-1) 4) = 0xFFFFC000#32
  ∧ ∀ (r : Reg) (x : Int) (d : Nat),
      (assembleLine (.wr r (.q x d)) = none ↔
        d = 0 ∨ ¬ (d : Int) ∣ x * 2 ^ 16 ∨ x * 2 ^ 16 < -2 ^ 31 * d ∨ (2 ^ 31 - 1) * d < x * 2 ^ 16)
      ∧ (d ≠ 0 → (d : Int) ∣ x * 2 ^ 16 → -2 ^ 31 * d ≤ x * 2 ^ 16 → x * 2 ^ 16 ≤ (2 ^ 31 - 1) * d →
        ∃ v : Word, s32 v * d = x * 2 ^ 16
          ∧ assembleLine (.wr r (.q x d))
            = some [.txn { write := true, addr := regOffset r, size := 2#2, wdata := v }])

/-- R86: each pseudo-instruction is its expansion, and `wait_idle` reads `STATUS` at each of the host's
turns and ends exactly when the value read has bits [3:0] = 0, that is when no channel is busy. That
one turn is one read is the model's choice (log 5). -/
def Obligations.PseudoInstructionsExpand : Prop :=
  (∀ a b c d : Word, assembleLine (.stage4 (.hex a) (.hex b) (.hex c) (.hex d))
      = some [.txn (writeTxn 0x090 a), .txn (writeTxn 0x094 b), .txn (writeTxn 0x098 c),
        .txn (writeTxn 0x09C d), .txn (commandTxn 0x00000002)])
  ∧ (∀ (m : Motor) (v : Word), assembleLine (.override m (.hex v))
      = some [.txn (writeTxn (regOffset (.stage m)) v), .txn (commandTxn (encode (.setMotor m)))])
  ∧ assembleLine .clrErrors = some [.txn (writeTxn 0x004 0x00030000)]
  ∧ assembleLine .waitIdle = some [.pollIdle]
  ∧ assembleLine .disarm
      = some [.txn (commandTxn 0x00000004), .pollIdle, .txn (commandTxn 0x00000005)]
  ∧ ∀ (s : State) (q : List Turn) (p : List HostOp), configValid s.cfg = true →
      s.rstActive = false → s.sched = .host :: q → s.prog = .pollIdle :: p →
      ((∀ m : Motor, s.chan.get m = .idle) →
        step s = .next (answered s q p (.read (readReg s .status) false)))
      ∧ ((∃ m : Motor, busyChannel s m) →
        step s = .next (answered s q (.pollIdle :: p) (.read (readReg s .status) false)))
end

