-- ==== Sys2Proof/Laws/Arith.lean ====
section
/-! SUPPORT. What the number operations of 00_scope.md rules R10 to R14 give, said once. -/

namespace Sys2Proof.Machine

/-- A word reads as an integer of the signed 32-bit range. -/
theorem s32_bounds (w : Word) : -2147483648 ≤ s32 w ∧ s32 w ≤ 2147483647 := by
  unfold s32
  have h1 := BitVec.le_toInt w
  have h2 := BitVec.toInt_lt (x := w)
  norm_num at h1 h2
  omega

/-- An integer of the signed 32-bit range survives the way through a word. -/
theorem s32_u32 {x : Int} (h1 : -2147483648 ≤ x) (h2 : x ≤ 2147483647) : s32 (u32 x) = x := by
  unfold s32 u32
  rw [BitVec.toInt_ofInt, Int.bmod_def]
  norm_num
  omega

/-- A word is determined by the integer it reads as. -/
theorem u32_s32 (w : Word) : u32 (s32 w) = w := by
  unfold s32 u32
  exact BitVec.ofInt_toInt

/-- The value of `sat32` is the nearest integer of the signed 32-bit range. -/
theorem sat32_val (x : Int) : (sat32 x).val = min (max x (-2147483648)) 2147483647 := by
  unfold sat32
  split
  · show (-2147483648 : Int) = _
    omega
  · split
    · show (2147483647 : Int) = _
      omega
    · show x = _
      omega

/-- `sat32` flags exactly the integers outside the range. -/
theorem sat32_flag (x : Int) :
    (sat32 x).sat = true ↔ x < -2147483648 ∨ 2147483647 < x := by
  unfold sat32
  split
  · simp; omega
  · split
    · simp; omega
    · simp; omega

theorem sat32_val_bounds (x : Int) :
    -2147483648 ≤ (sat32 x).val ∧ (sat32 x).val ≤ 2147483647 := by
  rw [sat32_val]; omega

theorem sat32_in_range {x : Int} (h1 : -2147483648 ≤ x) (h2 : x ≤ 2147483647) :
    sat32 x = ⟨x, false⟩ := by
  unfold sat32
  rw [if_neg (by omega), if_neg (by omega)]

/-- A clamp with ordered bounds stays within them. -/
theorem clamp_bounds {x lo hi : Int} (h : lo ≤ hi) : lo ≤ clamp x lo hi ∧ clamp x lo hi ≤ hi := by
  unfold clamp; omega

theorem clamp_le (x lo hi : Int) : clamp x lo hi ≤ hi := by unfold clamp; omega

/-- A clamp lies between the lower of the bounds and the upper bound. -/
theorem clamp_ge_min (x lo hi : Int) : min lo hi ≤ clamp x lo hi := by unfold clamp; omega

end Sys2Proof.Machine
end

