-- ==== Sys2Proof/Laws/Quad.lean ====
section
/-! SUPPORT. The small lemmas of the 4-tuple. -/

namespace Sys2Proof

variable {α β : Type}

@[simp] theorem Quad.get_ofFn (f : Motor → α) (m : Motor) : (Quad.ofFn f).get m = f m := by
  fin_cases m <;> rfl

@[simp] theorem Quad.get_fill (v : α) (m : Motor) : (Quad.fill v).get m = v := by
  fin_cases m <;> rfl

@[simp] theorem Quad.get_map (f : α → β) (q : Quad α) (m : Motor) :
    (q.map f).get m = f (q.get m) := by
  fin_cases m <;> rfl

@[simp] theorem Quad.get_set_same (q : Quad α) (m : Motor) (v : α) : (q.set m v).get m = v := by
  fin_cases m <;> rfl

theorem Quad.get_set (q : Quad α) (m n : Motor) (v : α) :
    (q.set m v).get n = if n = m then v else q.get n := by
  fin_cases m <;> fin_cases n <;> rfl

/-- Two tuples with the same four values are equal. -/
theorem Quad.ext_get {p q : Quad α} (h : ∀ m : Motor, p.get m = q.get m) : p = q := by
  obtain ⟨a, b, c, d⟩ := p
  obtain ⟨a', b', c', d'⟩ := q
  have h0 : a = a' := h 0
  have h1 : b = b' := h 1
  have h2 : c = c' := h 2
  have h3 : d = d' := h 3
  subst h0 h1 h2 h3
  rfl

/-- Some flag is set exactly when some channel's is. -/
theorem Quad.any_iff (q : Quad Bool) : q.any = true ↔ ∃ m : Motor, q.get m = true := by
  obtain ⟨a, b, c, d⟩ := q
  revert a b c d
  decide

end Sys2Proof
end

