-- ==== Sys2Proof/Laws/State.lean ====
section
/-! SUPPORT. One lemma per field per named update of State: what the update writes, and that it leaves
every other field. -/

namespace Sys2Proof.Machine

/-! ### `State.setResp` -/

@[simp] theorem State.setResp_cfg (s : State) (r : BusResponse) :
    (s.setResp r).cfg = s.cfg := rfl

@[simp] theorem State.setResp_regs (s : State) (r : BusResponse) :
    (s.setResp r).regs = s.regs := rfl

@[simp] theorem State.setResp_yawInteg (s : State) (r : BusResponse) :
    (s.setResp r).yawInteg = s.yawInteg := rfl

@[simp] theorem State.setResp_thrust (s : State) (r : BusResponse) :
    (s.setResp r).thrust = s.thrust := rfl

@[simp] theorem State.setResp_lastThr (s : State) (r : BusResponse) :
    (s.setResp r).lastThr = s.lastThr := rfl

@[simp] theorem State.setResp_lastFrame (s : State) (r : BusResponse) :
    (s.setResp r).lastFrame = s.lastFrame := rfl

@[simp] theorem State.setResp_slotBuf (s : State) (r : BusResponse) :
    (s.setResp r).slotBuf = s.slotBuf := rfl

@[simp] theorem State.setResp_chan (s : State) (r : BusResponse) :
    (s.setResp r).chan = s.chan := rfl

@[simp] theorem State.setResp_mclamp (s : State) (r : BusResponse) :
    (s.setResp r).mclamp = s.mclamp := rfl

@[simp] theorem State.setResp_iclamp (s : State) (r : BusResponse) :
    (s.setResp r).iclamp = s.iclamp := rfl

@[simp] theorem State.setResp_sat (s : State) (r : BusResponse) :
    (s.setResp r).sat = s.sat := rfl

@[simp] theorem State.setResp_illegal (s : State) (r : BusResponse) :
    (s.setResp r).illegal = s.illegal := rfl

@[simp] theorem State.setResp_fault (s : State) (r : BusResponse) :
    (s.setResp r).fault = s.fault := rfl

@[simp] theorem State.setResp_rstActive (s : State) (r : BusResponse) :
    (s.setResp r).rstActive = s.rstActive := rfl

@[simp] theorem State.setResp_resp (s : State) (r : BusResponse) :
    (s.setResp r).resp = r := rfl

@[simp] theorem State.setResp_prog (s : State) (r : BusResponse) :
    (s.setResp r).prog = s.prog := rfl

@[simp] theorem State.setResp_sched (s : State) (r : BusResponse) :
    (s.setResp r).sched = s.sched := rfl

/-! ### `State.setProg` -/

@[simp] theorem State.setProg_cfg (s : State) (p : List HostOp) :
    (s.setProg p).cfg = s.cfg := rfl

@[simp] theorem State.setProg_regs (s : State) (p : List HostOp) :
    (s.setProg p).regs = s.regs := rfl

@[simp] theorem State.setProg_yawInteg (s : State) (p : List HostOp) :
    (s.setProg p).yawInteg = s.yawInteg := rfl

@[simp] theorem State.setProg_thrust (s : State) (p : List HostOp) :
    (s.setProg p).thrust = s.thrust := rfl

@[simp] theorem State.setProg_lastThr (s : State) (p : List HostOp) :
    (s.setProg p).lastThr = s.lastThr := rfl

@[simp] theorem State.setProg_lastFrame (s : State) (p : List HostOp) :
    (s.setProg p).lastFrame = s.lastFrame := rfl

@[simp] theorem State.setProg_slotBuf (s : State) (p : List HostOp) :
    (s.setProg p).slotBuf = s.slotBuf := rfl

@[simp] theorem State.setProg_chan (s : State) (p : List HostOp) :
    (s.setProg p).chan = s.chan := rfl

@[simp] theorem State.setProg_mclamp (s : State) (p : List HostOp) :
    (s.setProg p).mclamp = s.mclamp := rfl

@[simp] theorem State.setProg_iclamp (s : State) (p : List HostOp) :
    (s.setProg p).iclamp = s.iclamp := rfl

@[simp] theorem State.setProg_sat (s : State) (p : List HostOp) :
    (s.setProg p).sat = s.sat := rfl

@[simp] theorem State.setProg_illegal (s : State) (p : List HostOp) :
    (s.setProg p).illegal = s.illegal := rfl

@[simp] theorem State.setProg_fault (s : State) (p : List HostOp) :
    (s.setProg p).fault = s.fault := rfl

@[simp] theorem State.setProg_rstActive (s : State) (p : List HostOp) :
    (s.setProg p).rstActive = s.rstActive := rfl

@[simp] theorem State.setProg_resp (s : State) (p : List HostOp) :
    (s.setProg p).resp = s.resp := rfl

@[simp] theorem State.setProg_prog (s : State) (p : List HostOp) :
    (s.setProg p).prog = p := rfl

@[simp] theorem State.setProg_sched (s : State) (p : List HostOp) :
    (s.setProg p).sched = s.sched := rfl

/-! ### `State.setSched` -/

@[simp] theorem State.setSched_cfg (s : State) (q : List Turn) :
    (s.setSched q).cfg = s.cfg := rfl

@[simp] theorem State.setSched_regs (s : State) (q : List Turn) :
    (s.setSched q).regs = s.regs := rfl

@[simp] theorem State.setSched_yawInteg (s : State) (q : List Turn) :
    (s.setSched q).yawInteg = s.yawInteg := rfl

@[simp] theorem State.setSched_thrust (s : State) (q : List Turn) :
    (s.setSched q).thrust = s.thrust := rfl

@[simp] theorem State.setSched_lastThr (s : State) (q : List Turn) :
    (s.setSched q).lastThr = s.lastThr := rfl

@[simp] theorem State.setSched_lastFrame (s : State) (q : List Turn) :
    (s.setSched q).lastFrame = s.lastFrame := rfl

@[simp] theorem State.setSched_slotBuf (s : State) (q : List Turn) :
    (s.setSched q).slotBuf = s.slotBuf := rfl

@[simp] theorem State.setSched_chan (s : State) (q : List Turn) :
    (s.setSched q).chan = s.chan := rfl

@[simp] theorem State.setSched_mclamp (s : State) (q : List Turn) :
    (s.setSched q).mclamp = s.mclamp := rfl

@[simp] theorem State.setSched_iclamp (s : State) (q : List Turn) :
    (s.setSched q).iclamp = s.iclamp := rfl

@[simp] theorem State.setSched_sat (s : State) (q : List Turn) :
    (s.setSched q).sat = s.sat := rfl

@[simp] theorem State.setSched_illegal (s : State) (q : List Turn) :
    (s.setSched q).illegal = s.illegal := rfl

@[simp] theorem State.setSched_fault (s : State) (q : List Turn) :
    (s.setSched q).fault = s.fault := rfl

@[simp] theorem State.setSched_rstActive (s : State) (q : List Turn) :
    (s.setSched q).rstActive = s.rstActive := rfl

@[simp] theorem State.setSched_resp (s : State) (q : List Turn) :
    (s.setSched q).resp = s.resp := rfl

@[simp] theorem State.setSched_prog (s : State) (q : List Turn) :
    (s.setSched q).prog = s.prog := rfl

@[simp] theorem State.setSched_sched (s : State) (q : List Turn) :
    (s.setSched q).sched = q := rfl

/-! ### `State.setRegs` -/

@[simp] theorem State.setRegs_cfg (s : State) (r : HostRegs) :
    (s.setRegs r).cfg = s.cfg := rfl

@[simp] theorem State.setRegs_regs (s : State) (r : HostRegs) :
    (s.setRegs r).regs = r := rfl

@[simp] theorem State.setRegs_yawInteg (s : State) (r : HostRegs) :
    (s.setRegs r).yawInteg = s.yawInteg := rfl

@[simp] theorem State.setRegs_thrust (s : State) (r : HostRegs) :
    (s.setRegs r).thrust = s.thrust := rfl

@[simp] theorem State.setRegs_lastThr (s : State) (r : HostRegs) :
    (s.setRegs r).lastThr = s.lastThr := rfl

@[simp] theorem State.setRegs_lastFrame (s : State) (r : HostRegs) :
    (s.setRegs r).lastFrame = s.lastFrame := rfl

@[simp] theorem State.setRegs_slotBuf (s : State) (r : HostRegs) :
    (s.setRegs r).slotBuf = s.slotBuf := rfl

@[simp] theorem State.setRegs_chan (s : State) (r : HostRegs) :
    (s.setRegs r).chan = s.chan := rfl

@[simp] theorem State.setRegs_mclamp (s : State) (r : HostRegs) :
    (s.setRegs r).mclamp = s.mclamp := rfl

@[simp] theorem State.setRegs_iclamp (s : State) (r : HostRegs) :
    (s.setRegs r).iclamp = s.iclamp := rfl

@[simp] theorem State.setRegs_sat (s : State) (r : HostRegs) :
    (s.setRegs r).sat = s.sat := rfl

@[simp] theorem State.setRegs_illegal (s : State) (r : HostRegs) :
    (s.setRegs r).illegal = s.illegal := rfl

@[simp] theorem State.setRegs_fault (s : State) (r : HostRegs) :
    (s.setRegs r).fault = s.fault := rfl

@[simp] theorem State.setRegs_rstActive (s : State) (r : HostRegs) :
    (s.setRegs r).rstActive = s.rstActive := rfl

@[simp] theorem State.setRegs_resp (s : State) (r : HostRegs) :
    (s.setRegs r).resp = s.resp := rfl

@[simp] theorem State.setRegs_prog (s : State) (r : HostRegs) :
    (s.setRegs r).prog = s.prog := rfl

@[simp] theorem State.setRegs_sched (s : State) (r : HostRegs) :
    (s.setRegs r).sched = s.sched := rfl

/-! ### `State.setIntegrator` -/

@[simp] theorem State.setIntegrator_cfg (s : State) (i : Word) (c : Bool) :
    (s.setIntegrator i c).cfg = s.cfg := rfl

@[simp] theorem State.setIntegrator_regs (s : State) (i : Word) (c : Bool) :
    (s.setIntegrator i c).regs = s.regs := rfl

@[simp] theorem State.setIntegrator_yawInteg (s : State) (i : Word) (c : Bool) :
    (s.setIntegrator i c).yawInteg = i := rfl

@[simp] theorem State.setIntegrator_thrust (s : State) (i : Word) (c : Bool) :
    (s.setIntegrator i c).thrust = s.thrust := rfl

@[simp] theorem State.setIntegrator_lastThr (s : State) (i : Word) (c : Bool) :
    (s.setIntegrator i c).lastThr = s.lastThr := rfl

@[simp] theorem State.setIntegrator_lastFrame (s : State) (i : Word) (c : Bool) :
    (s.setIntegrator i c).lastFrame = s.lastFrame := rfl

@[simp] theorem State.setIntegrator_slotBuf (s : State) (i : Word) (c : Bool) :
    (s.setIntegrator i c).slotBuf = s.slotBuf := rfl

@[simp] theorem State.setIntegrator_chan (s : State) (i : Word) (c : Bool) :
    (s.setIntegrator i c).chan = s.chan := rfl

@[simp] theorem State.setIntegrator_mclamp (s : State) (i : Word) (c : Bool) :
    (s.setIntegrator i c).mclamp = s.mclamp := rfl

@[simp] theorem State.setIntegrator_iclamp (s : State) (i : Word) (c : Bool) :
    (s.setIntegrator i c).iclamp = c := rfl

@[simp] theorem State.setIntegrator_sat (s : State) (i : Word) (c : Bool) :
    (s.setIntegrator i c).sat = s.sat := rfl

@[simp] theorem State.setIntegrator_illegal (s : State) (i : Word) (c : Bool) :
    (s.setIntegrator i c).illegal = s.illegal := rfl

@[simp] theorem State.setIntegrator_fault (s : State) (i : Word) (c : Bool) :
    (s.setIntegrator i c).fault = s.fault := rfl

@[simp] theorem State.setIntegrator_rstActive (s : State) (i : Word) (c : Bool) :
    (s.setIntegrator i c).rstActive = s.rstActive := rfl

@[simp] theorem State.setIntegrator_resp (s : State) (i : Word) (c : Bool) :
    (s.setIntegrator i c).resp = s.resp := rfl

@[simp] theorem State.setIntegrator_prog (s : State) (i : Word) (c : Bool) :
    (s.setIntegrator i c).prog = s.prog := rfl

@[simp] theorem State.setIntegrator_sched (s : State) (i : Word) (c : Bool) :
    (s.setIntegrator i c).sched = s.sched := rfl

/-! ### `State.publish` -/

@[simp] theorem State.publish_cfg (s : State) (t : Quad Word) (c : Quad Bool) :
    (s.publish t c).cfg = s.cfg := rfl

@[simp] theorem State.publish_regs (s : State) (t : Quad Word) (c : Quad Bool) :
    (s.publish t c).regs = s.regs := rfl

@[simp] theorem State.publish_yawInteg (s : State) (t : Quad Word) (c : Quad Bool) :
    (s.publish t c).yawInteg = s.yawInteg := rfl

@[simp] theorem State.publish_thrust (s : State) (t : Quad Word) (c : Quad Bool) :
    (s.publish t c).thrust = t := rfl

@[simp] theorem State.publish_lastThr (s : State) (t : Quad Word) (c : Quad Bool) :
    (s.publish t c).lastThr = s.lastThr := rfl

@[simp] theorem State.publish_lastFrame (s : State) (t : Quad Word) (c : Quad Bool) :
    (s.publish t c).lastFrame = s.lastFrame := rfl

@[simp] theorem State.publish_slotBuf (s : State) (t : Quad Word) (c : Quad Bool) :
    (s.publish t c).slotBuf = s.slotBuf := rfl

@[simp] theorem State.publish_chan (s : State) (t : Quad Word) (c : Quad Bool) :
    (s.publish t c).chan = s.chan := rfl

@[simp] theorem State.publish_mclamp (s : State) (t : Quad Word) (c : Quad Bool) :
    (s.publish t c).mclamp = c := rfl

@[simp] theorem State.publish_iclamp (s : State) (t : Quad Word) (c : Quad Bool) :
    (s.publish t c).iclamp = s.iclamp := rfl

@[simp] theorem State.publish_sat (s : State) (t : Quad Word) (c : Quad Bool) :
    (s.publish t c).sat = s.sat := rfl

@[simp] theorem State.publish_illegal (s : State) (t : Quad Word) (c : Quad Bool) :
    (s.publish t c).illegal = s.illegal := rfl

@[simp] theorem State.publish_fault (s : State) (t : Quad Word) (c : Quad Bool) :
    (s.publish t c).fault = s.fault := rfl

@[simp] theorem State.publish_rstActive (s : State) (t : Quad Word) (c : Quad Bool) :
    (s.publish t c).rstActive = s.rstActive := rfl

@[simp] theorem State.publish_resp (s : State) (t : Quad Word) (c : Quad Bool) :
    (s.publish t c).resp = s.resp := rfl

@[simp] theorem State.publish_prog (s : State) (t : Quad Word) (c : Quad Bool) :
    (s.publish t c).prog = s.prog := rfl

@[simp] theorem State.publish_sched (s : State) (t : Quad Word) (c : Quad Bool) :
    (s.publish t c).sched = s.sched := rfl

/-! ### `State.raiseSat` -/

@[simp] theorem State.raiseSat_cfg (s : State) (b : Bool) :
    (s.raiseSat b).cfg = s.cfg := rfl

@[simp] theorem State.raiseSat_regs (s : State) (b : Bool) :
    (s.raiseSat b).regs = s.regs := rfl

@[simp] theorem State.raiseSat_yawInteg (s : State) (b : Bool) :
    (s.raiseSat b).yawInteg = s.yawInteg := rfl

@[simp] theorem State.raiseSat_thrust (s : State) (b : Bool) :
    (s.raiseSat b).thrust = s.thrust := rfl

@[simp] theorem State.raiseSat_lastThr (s : State) (b : Bool) :
    (s.raiseSat b).lastThr = s.lastThr := rfl

@[simp] theorem State.raiseSat_lastFrame (s : State) (b : Bool) :
    (s.raiseSat b).lastFrame = s.lastFrame := rfl

@[simp] theorem State.raiseSat_slotBuf (s : State) (b : Bool) :
    (s.raiseSat b).slotBuf = s.slotBuf := rfl

@[simp] theorem State.raiseSat_chan (s : State) (b : Bool) :
    (s.raiseSat b).chan = s.chan := rfl

@[simp] theorem State.raiseSat_mclamp (s : State) (b : Bool) :
    (s.raiseSat b).mclamp = s.mclamp := rfl

@[simp] theorem State.raiseSat_iclamp (s : State) (b : Bool) :
    (s.raiseSat b).iclamp = s.iclamp := rfl

@[simp] theorem State.raiseSat_sat (s : State) (b : Bool) :
    (s.raiseSat b).sat = (s.sat || b) := rfl

@[simp] theorem State.raiseSat_illegal (s : State) (b : Bool) :
    (s.raiseSat b).illegal = s.illegal := rfl

@[simp] theorem State.raiseSat_fault (s : State) (b : Bool) :
    (s.raiseSat b).fault = s.fault := rfl

@[simp] theorem State.raiseSat_rstActive (s : State) (b : Bool) :
    (s.raiseSat b).rstActive = s.rstActive := rfl

@[simp] theorem State.raiseSat_resp (s : State) (b : Bool) :
    (s.raiseSat b).resp = s.resp := rfl

@[simp] theorem State.raiseSat_prog (s : State) (b : Bool) :
    (s.raiseSat b).prog = s.prog := rfl

@[simp] theorem State.raiseSat_sched (s : State) (b : Bool) :
    (s.raiseSat b).sched = s.sched := rfl

/-! ### `State.clearSticky` -/

@[simp] theorem State.clearSticky_cfg (s : State) (v : Word) :
    (s.clearSticky v).cfg = s.cfg := rfl

@[simp] theorem State.clearSticky_regs (s : State) (v : Word) :
    (s.clearSticky v).regs = s.regs := rfl

@[simp] theorem State.clearSticky_yawInteg (s : State) (v : Word) :
    (s.clearSticky v).yawInteg = s.yawInteg := rfl

@[simp] theorem State.clearSticky_thrust (s : State) (v : Word) :
    (s.clearSticky v).thrust = s.thrust := rfl

@[simp] theorem State.clearSticky_lastThr (s : State) (v : Word) :
    (s.clearSticky v).lastThr = s.lastThr := rfl

@[simp] theorem State.clearSticky_lastFrame (s : State) (v : Word) :
    (s.clearSticky v).lastFrame = s.lastFrame := rfl

@[simp] theorem State.clearSticky_slotBuf (s : State) (v : Word) :
    (s.clearSticky v).slotBuf = s.slotBuf := rfl

@[simp] theorem State.clearSticky_chan (s : State) (v : Word) :
    (s.clearSticky v).chan = s.chan := rfl

@[simp] theorem State.clearSticky_mclamp (s : State) (v : Word) :
    (s.clearSticky v).mclamp = s.mclamp := rfl

@[simp] theorem State.clearSticky_iclamp (s : State) (v : Word) :
    (s.clearSticky v).iclamp = s.iclamp := rfl

@[simp] theorem State.clearSticky_sat (s : State) (v : Word) :
    (s.clearSticky v).sat = satAfterClear v s.sat := rfl

@[simp] theorem State.clearSticky_illegal (s : State) (v : Word) :
    (s.clearSticky v).illegal = illegalAfterClear v s.illegal := rfl

@[simp] theorem State.clearSticky_fault (s : State) (v : Word) :
    (s.clearSticky v).fault = s.fault := rfl

@[simp] theorem State.clearSticky_rstActive (s : State) (v : Word) :
    (s.clearSticky v).rstActive = s.rstActive := rfl

@[simp] theorem State.clearSticky_resp (s : State) (v : Word) :
    (s.clearSticky v).resp = s.resp := rfl

@[simp] theorem State.clearSticky_prog (s : State) (v : Word) :
    (s.clearSticky v).prog = s.prog := rfl

@[simp] theorem State.clearSticky_sched (s : State) (v : Word) :
    (s.clearSticky v).sched = s.sched := rfl

/-! ### `State.loadBuffers` -/

@[simp] theorem State.loadBuffers_cfg (s : State) (a : Quad Throttle) (f : Quad Frame)
    (b : Quad (Vector (BitVec 16) 17)) :
    (s.loadBuffers a f b).cfg = s.cfg := rfl

@[simp] theorem State.loadBuffers_regs (s : State) (a : Quad Throttle) (f : Quad Frame)
    (b : Quad (Vector (BitVec 16) 17)) :
    (s.loadBuffers a f b).regs = s.regs := rfl

@[simp] theorem State.loadBuffers_yawInteg (s : State) (a : Quad Throttle) (f : Quad Frame)
    (b : Quad (Vector (BitVec 16) 17)) :
    (s.loadBuffers a f b).yawInteg = s.yawInteg := rfl

@[simp] theorem State.loadBuffers_thrust (s : State) (a : Quad Throttle) (f : Quad Frame)
    (b : Quad (Vector (BitVec 16) 17)) :
    (s.loadBuffers a f b).thrust = s.thrust := rfl

@[simp] theorem State.loadBuffers_lastThr (s : State) (a : Quad Throttle) (f : Quad Frame)
    (b : Quad (Vector (BitVec 16) 17)) :
    (s.loadBuffers a f b).lastThr = a := rfl

@[simp] theorem State.loadBuffers_lastFrame (s : State) (a : Quad Throttle) (f : Quad Frame)
    (b : Quad (Vector (BitVec 16) 17)) :
    (s.loadBuffers a f b).lastFrame = f := rfl

@[simp] theorem State.loadBuffers_slotBuf (s : State) (a : Quad Throttle) (f : Quad Frame)
    (b : Quad (Vector (BitVec 16) 17)) :
    (s.loadBuffers a f b).slotBuf = b := rfl

@[simp] theorem State.loadBuffers_chan (s : State) (a : Quad Throttle) (f : Quad Frame)
    (b : Quad (Vector (BitVec 16) 17)) :
    (s.loadBuffers a f b).chan = s.chan := rfl

@[simp] theorem State.loadBuffers_mclamp (s : State) (a : Quad Throttle) (f : Quad Frame)
    (b : Quad (Vector (BitVec 16) 17)) :
    (s.loadBuffers a f b).mclamp = s.mclamp := rfl

@[simp] theorem State.loadBuffers_iclamp (s : State) (a : Quad Throttle) (f : Quad Frame)
    (b : Quad (Vector (BitVec 16) 17)) :
    (s.loadBuffers a f b).iclamp = s.iclamp := rfl

@[simp] theorem State.loadBuffers_sat (s : State) (a : Quad Throttle) (f : Quad Frame)
    (b : Quad (Vector (BitVec 16) 17)) :
    (s.loadBuffers a f b).sat = s.sat := rfl

@[simp] theorem State.loadBuffers_illegal (s : State) (a : Quad Throttle) (f : Quad Frame)
    (b : Quad (Vector (BitVec 16) 17)) :
    (s.loadBuffers a f b).illegal = s.illegal := rfl

@[simp] theorem State.loadBuffers_fault (s : State) (a : Quad Throttle) (f : Quad Frame)
    (b : Quad (Vector (BitVec 16) 17)) :
    (s.loadBuffers a f b).fault = s.fault := rfl

@[simp] theorem State.loadBuffers_rstActive (s : State) (a : Quad Throttle) (f : Quad Frame)
    (b : Quad (Vector (BitVec 16) 17)) :
    (s.loadBuffers a f b).rstActive = s.rstActive := rfl

@[simp] theorem State.loadBuffers_resp (s : State) (a : Quad Throttle) (f : Quad Frame)
    (b : Quad (Vector (BitVec 16) 17)) :
    (s.loadBuffers a f b).resp = s.resp := rfl

@[simp] theorem State.loadBuffers_prog (s : State) (a : Quad Throttle) (f : Quad Frame)
    (b : Quad (Vector (BitVec 16) 17)) :
    (s.loadBuffers a f b).prog = s.prog := rfl

@[simp] theorem State.loadBuffers_sched (s : State) (a : Quad Throttle) (f : Quad Frame)
    (b : Quad (Vector (BitVec 16) 17)) :
    (s.loadBuffers a f b).sched = s.sched := rfl

/-! ### `State.setChan` -/

@[simp] theorem State.setChan_cfg (s : State) (c : Quad Channel) :
    (s.setChan c).cfg = s.cfg := rfl

@[simp] theorem State.setChan_regs (s : State) (c : Quad Channel) :
    (s.setChan c).regs = s.regs := rfl

@[simp] theorem State.setChan_yawInteg (s : State) (c : Quad Channel) :
    (s.setChan c).yawInteg = s.yawInteg := rfl

@[simp] theorem State.setChan_thrust (s : State) (c : Quad Channel) :
    (s.setChan c).thrust = s.thrust := rfl

@[simp] theorem State.setChan_lastThr (s : State) (c : Quad Channel) :
    (s.setChan c).lastThr = s.lastThr := rfl

@[simp] theorem State.setChan_lastFrame (s : State) (c : Quad Channel) :
    (s.setChan c).lastFrame = s.lastFrame := rfl

@[simp] theorem State.setChan_slotBuf (s : State) (c : Quad Channel) :
    (s.setChan c).slotBuf = s.slotBuf := rfl

@[simp] theorem State.setChan_chan (s : State) (c : Quad Channel) :
    (s.setChan c).chan = c := rfl

@[simp] theorem State.setChan_mclamp (s : State) (c : Quad Channel) :
    (s.setChan c).mclamp = s.mclamp := rfl

@[simp] theorem State.setChan_iclamp (s : State) (c : Quad Channel) :
    (s.setChan c).iclamp = s.iclamp := rfl

@[simp] theorem State.setChan_sat (s : State) (c : Quad Channel) :
    (s.setChan c).sat = s.sat := rfl

@[simp] theorem State.setChan_illegal (s : State) (c : Quad Channel) :
    (s.setChan c).illegal = s.illegal := rfl

@[simp] theorem State.setChan_fault (s : State) (c : Quad Channel) :
    (s.setChan c).fault = s.fault := rfl

@[simp] theorem State.setChan_rstActive (s : State) (c : Quad Channel) :
    (s.setChan c).rstActive = s.rstActive := rfl

@[simp] theorem State.setChan_resp (s : State) (c : Quad Channel) :
    (s.setChan c).resp = s.resp := rfl

@[simp] theorem State.setChan_prog (s : State) (c : Quad Channel) :
    (s.setChan c).prog = s.prog := rfl

@[simp] theorem State.setChan_sched (s : State) (c : Quad Channel) :
    (s.setChan c).sched = s.sched := rfl

/-! ### `raiseIllegal` -/

@[simp] theorem raiseIllegal_cfg (s : State) :
    (raiseIllegal s).cfg = s.cfg := rfl

@[simp] theorem raiseIllegal_regs (s : State) :
    (raiseIllegal s).regs = s.regs := rfl

@[simp] theorem raiseIllegal_yawInteg (s : State) :
    (raiseIllegal s).yawInteg = s.yawInteg := rfl

@[simp] theorem raiseIllegal_thrust (s : State) :
    (raiseIllegal s).thrust = s.thrust := rfl

@[simp] theorem raiseIllegal_lastThr (s : State) :
    (raiseIllegal s).lastThr = s.lastThr := rfl

@[simp] theorem raiseIllegal_lastFrame (s : State) :
    (raiseIllegal s).lastFrame = s.lastFrame := rfl

@[simp] theorem raiseIllegal_slotBuf (s : State) :
    (raiseIllegal s).slotBuf = s.slotBuf := rfl

@[simp] theorem raiseIllegal_chan (s : State) :
    (raiseIllegal s).chan = s.chan := rfl

@[simp] theorem raiseIllegal_mclamp (s : State) :
    (raiseIllegal s).mclamp = s.mclamp := rfl

@[simp] theorem raiseIllegal_iclamp (s : State) :
    (raiseIllegal s).iclamp = s.iclamp := rfl

@[simp] theorem raiseIllegal_sat (s : State) :
    (raiseIllegal s).sat = s.sat := rfl

@[simp] theorem raiseIllegal_illegal (s : State) :
    (raiseIllegal s).illegal = true := rfl

@[simp] theorem raiseIllegal_fault (s : State) :
    (raiseIllegal s).fault = s.fault := rfl

@[simp] theorem raiseIllegal_rstActive (s : State) :
    (raiseIllegal s).rstActive = s.rstActive := rfl

@[simp] theorem raiseIllegal_resp (s : State) :
    (raiseIllegal s).resp = s.resp := rfl

@[simp] theorem raiseIllegal_prog (s : State) :
    (raiseIllegal s).prog = s.prog := rfl

@[simp] theorem raiseIllegal_sched (s : State) :
    (raiseIllegal s).sched = s.sched := rfl

/-! ### `raiseStartFailure` -/

@[simp] theorem raiseStartFailure_cfg (s : State) :
    (raiseStartFailure s).cfg = s.cfg := rfl

@[simp] theorem raiseStartFailure_regs (s : State) :
    (raiseStartFailure s).regs = s.regs := rfl

@[simp] theorem raiseStartFailure_yawInteg (s : State) :
    (raiseStartFailure s).yawInteg = s.yawInteg := rfl

@[simp] theorem raiseStartFailure_thrust (s : State) :
    (raiseStartFailure s).thrust = s.thrust := rfl

@[simp] theorem raiseStartFailure_lastThr (s : State) :
    (raiseStartFailure s).lastThr = s.lastThr := rfl

@[simp] theorem raiseStartFailure_lastFrame (s : State) :
    (raiseStartFailure s).lastFrame = s.lastFrame := rfl

@[simp] theorem raiseStartFailure_slotBuf (s : State) :
    (raiseStartFailure s).slotBuf = s.slotBuf := rfl

@[simp] theorem raiseStartFailure_chan (s : State) :
    (raiseStartFailure s).chan = s.chan := rfl

@[simp] theorem raiseStartFailure_mclamp (s : State) :
    (raiseStartFailure s).mclamp = s.mclamp := rfl

@[simp] theorem raiseStartFailure_iclamp (s : State) :
    (raiseStartFailure s).iclamp = s.iclamp := rfl

@[simp] theorem raiseStartFailure_sat (s : State) :
    (raiseStartFailure s).sat = s.sat := rfl

@[simp] theorem raiseStartFailure_illegal (s : State) :
    (raiseStartFailure s).illegal = s.illegal := rfl

@[simp] theorem raiseStartFailure_fault (s : State) :
    (raiseStartFailure s).fault = true := rfl

@[simp] theorem raiseStartFailure_rstActive (s : State) :
    (raiseStartFailure s).rstActive = s.rstActive := rfl

@[simp] theorem raiseStartFailure_resp (s : State) :
    (raiseStartFailure s).resp = s.resp := rfl

@[simp] theorem raiseStartFailure_prog (s : State) :
    (raiseStartFailure s).prog = s.prog := rfl

@[simp] theorem raiseStartFailure_sched (s : State) :
    (raiseStartFailure s).sched = s.sched := rfl

/-! ### `raiseBusError` and `regRead` -/

@[simp] theorem raiseBusError_cfg (w : Bool) (s : State) :
    (raiseBusError w s).cfg = s.cfg := rfl

@[simp] theorem raiseBusError_regs (w : Bool) (s : State) :
    (raiseBusError w s).regs = s.regs := rfl

@[simp] theorem raiseBusError_yawInteg (w : Bool) (s : State) :
    (raiseBusError w s).yawInteg = s.yawInteg := rfl

@[simp] theorem raiseBusError_thrust (w : Bool) (s : State) :
    (raiseBusError w s).thrust = s.thrust := rfl

@[simp] theorem raiseBusError_lastThr (w : Bool) (s : State) :
    (raiseBusError w s).lastThr = s.lastThr := rfl

@[simp] theorem raiseBusError_lastFrame (w : Bool) (s : State) :
    (raiseBusError w s).lastFrame = s.lastFrame := rfl

@[simp] theorem raiseBusError_slotBuf (w : Bool) (s : State) :
    (raiseBusError w s).slotBuf = s.slotBuf := rfl

@[simp] theorem raiseBusError_chan (w : Bool) (s : State) :
    (raiseBusError w s).chan = s.chan := rfl

@[simp] theorem raiseBusError_mclamp (w : Bool) (s : State) :
    (raiseBusError w s).mclamp = s.mclamp := rfl

@[simp] theorem raiseBusError_iclamp (w : Bool) (s : State) :
    (raiseBusError w s).iclamp = s.iclamp := rfl

@[simp] theorem raiseBusError_sat (w : Bool) (s : State) :
    (raiseBusError w s).sat = s.sat := rfl

@[simp] theorem raiseBusError_illegal (w : Bool) (s : State) :
    (raiseBusError w s).illegal = s.illegal := rfl

@[simp] theorem raiseBusError_fault (w : Bool) (s : State) :
    (raiseBusError w s).fault = s.fault := rfl

@[simp] theorem raiseBusError_rstActive (w : Bool) (s : State) :
    (raiseBusError w s).rstActive = s.rstActive := rfl

@[simp] theorem raiseBusError_prog (w : Bool) (s : State) :
    (raiseBusError w s).prog = s.prog := rfl

@[simp] theorem raiseBusError_sched (w : Bool) (s : State) :
    (raiseBusError w s).sched = s.sched := rfl

@[simp] theorem regRead_cfg (r : Reg) (s : State) :
    (regRead r s).cfg = s.cfg := rfl

@[simp] theorem regRead_regs (r : Reg) (s : State) :
    (regRead r s).regs = s.regs := rfl

@[simp] theorem regRead_yawInteg (r : Reg) (s : State) :
    (regRead r s).yawInteg = s.yawInteg := rfl

@[simp] theorem regRead_thrust (r : Reg) (s : State) :
    (regRead r s).thrust = s.thrust := rfl

@[simp] theorem regRead_lastThr (r : Reg) (s : State) :
    (regRead r s).lastThr = s.lastThr := rfl

@[simp] theorem regRead_lastFrame (r : Reg) (s : State) :
    (regRead r s).lastFrame = s.lastFrame := rfl

@[simp] theorem regRead_slotBuf (r : Reg) (s : State) :
    (regRead r s).slotBuf = s.slotBuf := rfl

@[simp] theorem regRead_chan (r : Reg) (s : State) :
    (regRead r s).chan = s.chan := rfl

@[simp] theorem regRead_mclamp (r : Reg) (s : State) :
    (regRead r s).mclamp = s.mclamp := rfl

@[simp] theorem regRead_iclamp (r : Reg) (s : State) :
    (regRead r s).iclamp = s.iclamp := rfl

@[simp] theorem regRead_sat (r : Reg) (s : State) :
    (regRead r s).sat = s.sat := rfl

@[simp] theorem regRead_illegal (r : Reg) (s : State) :
    (regRead r s).illegal = s.illegal := rfl

@[simp] theorem regRead_fault (r : Reg) (s : State) :
    (regRead r s).fault = s.fault := rfl

@[simp] theorem regRead_rstActive (r : Reg) (s : State) :
    (regRead r s).rstActive = s.rstActive := rfl

@[simp] theorem regRead_prog (r : Reg) (s : State) :
    (regRead r s).prog = s.prog := rfl

@[simp] theorem regRead_sched (r : Reg) (s : State) :
    (regRead r s).sched = s.sched := rfl

@[simp] theorem raiseBusError_resp (w : Bool) (s : State) :
    (raiseBusError w s).resp = (if w then .written true else .read 0 true) := rfl

@[simp] theorem regRead_resp (r : Reg) (s : State) :
    (regRead r s).resp = .read (readReg s r) false := rfl

/-! ### `resetState` -/

@[simp] theorem resetState_cfg (b : Bool) (s : State) :
    (resetState b s).cfg = s.cfg := rfl

@[simp] theorem resetState_regs (b : Bool) (s : State) :
    (resetState b s).regs = (State.initial s.cfg).regs := rfl

@[simp] theorem resetState_yawInteg (b : Bool) (s : State) :
    (resetState b s).yawInteg = (State.initial s.cfg).yawInteg := rfl

@[simp] theorem resetState_thrust (b : Bool) (s : State) :
    (resetState b s).thrust = (State.initial s.cfg).thrust := rfl

@[simp] theorem resetState_lastThr (b : Bool) (s : State) :
    (resetState b s).lastThr = (State.initial s.cfg).lastThr := rfl

@[simp] theorem resetState_lastFrame (b : Bool) (s : State) :
    (resetState b s).lastFrame = (State.initial s.cfg).lastFrame := rfl

@[simp] theorem resetState_slotBuf (b : Bool) (s : State) :
    (resetState b s).slotBuf = (State.initial s.cfg).slotBuf := rfl

@[simp] theorem resetState_chan (b : Bool) (s : State) :
    (resetState b s).chan = (State.initial s.cfg).chan := rfl

@[simp] theorem resetState_mclamp (b : Bool) (s : State) :
    (resetState b s).mclamp = (State.initial s.cfg).mclamp := rfl

@[simp] theorem resetState_iclamp (b : Bool) (s : State) :
    (resetState b s).iclamp = (State.initial s.cfg).iclamp := rfl

@[simp] theorem resetState_sat (b : Bool) (s : State) :
    (resetState b s).sat = (State.initial s.cfg).sat := rfl

@[simp] theorem resetState_illegal (b : Bool) (s : State) :
    (resetState b s).illegal = (State.initial s.cfg).illegal := rfl

@[simp] theorem resetState_fault (b : Bool) (s : State) :
    (resetState b s).fault = (State.initial s.cfg).fault := rfl

@[simp] theorem resetState_rstActive (b : Bool) (s : State) :
    (resetState b s).rstActive = b := rfl

@[simp] theorem resetState_resp (b : Bool) (s : State) :
    (resetState b s).resp = (State.initial s.cfg).resp := rfl

@[simp] theorem resetState_prog (b : Bool) (s : State) :
    (resetState b s).prog = s.prog := rfl

@[simp] theorem resetState_sched (b : Bool) (s : State) :
    (resetState b s).sched = s.sched := rfl

end Sys2Proof.Machine
end

