-- ==== Sys2Proof/Laws/Ops.lean ====
section
/-! SUPPORT. For each shared operation, everything it can do, said once. -/

namespace Sys2Proof.Machine

/-- `transmit` has three outcomes (R167). -/
theorem transmit_cases (s : State) :
    (s.fault = true ∧ transmit s = s)
      ∨ (s.fault = false ∧ anyBusy s = true ∧ transmit s = raiseStartFailure s)
      ∨ (s.fault = false ∧ anyBusy s = false ∧ transmit s = sendFrames s) := by
  unfold transmit
  cases s.fault <;> cases anyBusy s <;> simp

/-- `anyBusy` is what it says. -/
theorem anyBusy_iff (s : State) : anyBusy s = true ↔ ∃ m : Motor, (s.chan.get m).busy = true := by
  unfold anyBusy busyFlags
  rw [Quad.any_iff]
  simp

/-- With no busy channel every engine is idle. -/
theorem chan_idle_of_not_anyBusy {s : State} (h : anyBusy s = false) : s.chan = Quad.fill .idle := by
  apply Quad.ext_get
  intro m
  rw [Quad.get_fill]
  cases hm : s.chan.get m with
  | idle => rfl
  | playing i t =>
    have : anyBusy s = true := (anyBusy_iff s).2 ⟨m, by rw [hm]; rfl⟩
    rw [h] at this
    cases this

/-- A plain register write changes the host-written registers, or the sticky bits, or nothing
(R66). -/
theorem writeReg_cases (r : Reg) (v : Word) (s : State) :
    writeReg r v s = s ∨ (r = .status ∧ writeReg r v s = s.clearSticky v)
      ∨ ∃ g : HostRegs, writeReg r v s = s.setRegs g := by
  cases r <;> simp [writeReg]

/-- One tick of an engine (R169). -/
theorem channelTick_cases (c : Config) (i : SlotIx) (t : Nat) :
    (t + 1 < c.period.toNat ∧ channelTick c (.playing i t) = .playing i (t + 1))
      ∨ (c.period.toNat ≤ t + 1 ∧ i.val < 16
          ∧ channelTick c (.playing i t) = .playing (Fin.ofNat 17 (i.val + 1)) 0)
      ∨ (c.period.toNat ≤ t + 1 ∧ i.val = 16 ∧ channelTick c (.playing i t) = .idle) := by
  have := i.isLt
  simp only [channelTick]
  split
  · exact Or.inl ⟨‹_›, rfl⟩
  · split
    · exact Or.inr (Or.inl ⟨by omega, ‹_›, rfl⟩)
    · exact Or.inr (Or.inr ⟨by omega, by omega, rfl⟩)

@[simp] theorem channelTick_idle (c : Config) : channelTick c .idle = .idle := rfl

/-- A clock cycle changes the engines only (R69). -/
theorem clockCycle_cases (s : State) :
    (s.cfg.timed = true ∧ clockCycle s = s.setChan (s.chan.map (channelTick s.cfg)))
      ∨ (s.cfg.timed = false ∧ clockCycle s = s) := by
  unfold clockCycle
  cases s.cfg.timed <;> simp

/-- A finish step makes one engine idle, with `TIMED` = false (R169). -/
theorem finishChannel_cases (m : Motor) (s : State) :
    (s.cfg.timed = true ∧ finishChannel m s = s)
      ∨ (s.cfg.timed = false ∧ finishChannel m s = s.setChan (s.chan.set m .idle)) := by
  unfold finishChannel
  cases s.cfg.timed <;> simp

/-- A change of `rst` resets the block or changes nothing (R230). -/
theorem resetLine_cases (b : Bool) (s : State) :
    ((b = true ∨ s.rstActive = true) ∧ resetLine b s = resetState b s)
      ∨ (b = false ∧ s.rstActive = false ∧ resetLine b s = s) := by
  unfold resetLine
  cases b <;> cases s.rstActive <;> simp

/-- What a command can do when it gives a next state: nothing, the integrator and ThrustCommand
(`CTRL_STEP`), ThrustCommand, the integrator, or `transmit`. -/
theorem exec_cases {i : Instr} {s t : State} (h : exec i s = .next t) :
    (i = .nop ∧ t = s)
      ∨ (i = .ctrlStep ∧ ∃ q c, t = ((s.setIntegrator (u32 (integNew s))
            (decide (integNew s ≠ (integAcc s).val))).publish q c).raiseSat (satFlag s))
      ∨ ((i = .setThrust ∨ (∃ m, i = .setMotor m) ∨ i = .zeroThrust) ∧ ∃ q c, t = s.publish q c)
      ∨ ((i = .update ∨ i = .updateAll) ∧ t = transmit s)
      ∨ (i = .clrInteg ∧ t = s.setIntegrator 0 false) := by
  cases i with
  | nop => exact Or.inl ⟨rfl, by injection h with h; exact h.symm⟩
  | ctrlStep =>
    injection h with h
    exact Or.inr (Or.inl ⟨rfl, _, _, h.symm⟩)
  | setThrust =>
    injection h with h
    exact Or.inr (Or.inr (Or.inl ⟨Or.inl rfl, _, _, h.symm⟩))
  | setMotor m =>
    injection h with h
    exact Or.inr (Or.inr (Or.inl ⟨Or.inr (Or.inl ⟨m, rfl⟩), _, _, h.symm⟩))
  | zeroThrust =>
    injection h with h
    exact Or.inr (Or.inr (Or.inl ⟨Or.inr (Or.inr rfl), _, _, h.symm⟩))
  | update =>
    injection h with h
    exact Or.inr (Or.inr (Or.inr (Or.inl ⟨Or.inl rfl, h.symm⟩)))
  | updateAll =>
    injection h with h
    exact Or.inr (Or.inr (Or.inr (Or.inl ⟨Or.inr rfl, h.symm⟩)))
  | clrInteg =>
    injection h with h
    exact Or.inr (Or.inr (Or.inr (Or.inr ⟨rfl, h.symm⟩)))

/-- What a bus transaction can do when it gives a next state (R65, R66, R203). -/
theorem busTransaction_cases {x : Transaction} {s t : State} (h : busTransaction x s = .next t) :
    (legalTarget x = none ∧ t = raiseBusError x.write s)
      ∨ (∃ r, legalTarget x = some r ∧ x.write = false ∧ t = regRead r s)
      ∨ (∃ r, legalTarget x = some r ∧ x.write = true ∧ r ≠ .cmd
          ∧ t = writeReg r x.wdata (s.setResp (.written false)))
      ∨ (legalTarget x = some .cmd ∧ x.write = true
          ∧ (∃ why, Sys2Proof.decode x.wdata = .illegal why)
          ∧ t = raiseIllegal (s.setResp (.written false)))
      ∨ (legalTarget x = some .cmd ∧ x.write = true
          ∧ ∃ i, Sys2Proof.decode x.wdata = .command i
            ∧ exec i (s.setResp (.written false)) = .next t) := by
  unfold busTransaction at h
  cases hl : legalTarget x with
  | none =>
    rw [hl] at h
    injection h with h
    exact Or.inl ⟨rfl, h.symm⟩
  | some r =>
    rw [hl] at h
    cases hw : x.write with
    | false =>
      simp only [hw] at h
      injection h with h
      exact Or.inr (Or.inl ⟨r, rfl, rfl, h.symm⟩)
    | true =>
      simp only [hw, if_true, regWrite] at h
      by_cases hr : r = .cmd
      · subst hr
        simp only [if_true, commandEngine] at h
        cases hd : Sys2Proof.decode x.wdata with
        | command i =>
          simp only [hd] at h
          exact Or.inr (Or.inr (Or.inr (Or.inr ⟨rfl, rfl, i, rfl, h⟩)))
        | illegal why =>
          simp only [hd] at h
          injection h with h
          exact Or.inr (Or.inr (Or.inr (Or.inl ⟨rfl, rfl, ⟨why, rfl⟩, h.symm⟩)))
      · simp only [hr, if_false] at h
        injection h with h
        exact Or.inr (Or.inr (Or.inl ⟨r, rfl, rfl, hr, h.symm⟩))

/-- A poll reads `STATUS` and keeps or drops the loop (R86). -/
theorem pollStatus_cases (rest : List HostOp) (s : State) :
    ((readReg s .status).extractLsb' 0 4 = 0
        ∧ pollStatus rest s = (regRead .status s).setProg rest)
      ∨ ((readReg s .status).extractLsb' 0 4 ≠ 0 ∧ pollStatus rest s = regRead .status s) := by
  unfold pollStatus
  by_cases h : (readReg s .status).extractLsb' 0 4 = 0
  · exact Or.inl ⟨h, if_pos h⟩
  · exact Or.inr ⟨h, if_neg h⟩

/-- What the host's turn can do (R7, R86, R230). -/
theorem hostTurn_cases {s t : State} (h : hostTurn s = .next t) :
    (s.prog = [] ∧ t = s)
      ∨ (s.prog ≠ [] ∧ s.rstActive = true ∧ t = s.setResp .stalled)
      ∨ (∃ rest, s.prog = .pollIdle :: rest ∧ s.rstActive = false ∧ t = pollStatus rest s)
      ∨ (∃ x rest, s.prog = .txn x :: rest ∧ s.rstActive = false
          ∧ busTransaction x (s.setProg rest) = .next t) := by
  unfold hostTurn at h
  cases hp : s.prog with
  | nil =>
    rw [hp] at h
    injection h with h
    exact Or.inl ⟨rfl, h.symm⟩
  | cons op rest =>
    rw [hp] at h
    cases hr : s.rstActive with
    | true =>
      cases op <;> simp only [hr, if_true] at h <;> injection h with h <;>
        exact Or.inr (Or.inl ⟨by simp, rfl, h.symm⟩)
    | false =>
      cases op with
      | txn x =>
        simp only [hr] at h
        exact Or.inr (Or.inr (Or.inr ⟨x, rest, rfl, rfl, h⟩))
      | pollIdle =>
        simp only [hr] at h
        injection h with h
        exact Or.inr (Or.inr (Or.inl ⟨rest, rfl, rfl, h.symm⟩))

/-- What a step can do when it gives a next state: one turn of one agent. -/
theorem step_cases {s t : State} (h : step s = .next t) :
    configValid s.cfg = true
      ∧ ((s.sched = [] ∧ t = clockCycle s)
        ∨ (∃ q, s.sched = .clk :: q ∧ t = clockCycle (s.setSched q))
        ∨ (∃ m q, s.sched = .finish m :: q ∧ t = finishChannel m (s.setSched q))
        ∨ (∃ b q, s.sched = .rst b :: q ∧ t = resetLine b (s.setSched q))
        ∨ (∃ q, s.sched = .host :: q ∧ hostTurn (s.setSched q) = .next t)) := by
  unfold step machineStep at h
  cases hc : configValid s.cfg with
  | false =>
    rw [hc] at h
    cases h
  | true =>
    refine ⟨rfl, ?_⟩
    simp only [hc, if_true] at h
    cases hq : s.sched with
    | nil =>
      rw [hq] at h
      injection h with h
      exact Or.inl ⟨rfl, h.symm⟩
    | cons u q =>
      rw [hq] at h
      cases u with
      | host => exact Or.inr (Or.inr (Or.inr (Or.inr ⟨q, rfl, h⟩)))
      | clk =>
        injection h with h
        exact Or.inr (Or.inl ⟨q, rfl, h.symm⟩)
      | finish m =>
        injection h with h
        exact Or.inr (Or.inr (Or.inl ⟨m, q, rfl, h.symm⟩))
      | rst b =>
        injection h with h
        exact Or.inr (Or.inr (Or.inr (Or.inl ⟨b, q, rfl, h.symm⟩)))
      | clkStop => cases h

end Sys2Proof.Machine
end

