-- ==== Sys2Proof/Laws/PerInstr.lean ====
section
/-! SUPPORT. Statements per instruction. `EncodedFields`: the encoding of a command has its opcode in
`OPC`, its channel in `CH` and 0 in `RSV` (30_encoding.md rule R80). -/

namespace Sys2Proof.Laws.EncodedFields

/-- The three fields of the encoded word. -/
def Statement (i : Instr) : Prop :=
  opcField (encode i) = i.opc ∧ chField (encode i) = i.ch ∧ rsvField (encode i) = 0

theorem nop : Statement .nop := by unfold Statement; decide
theorem ctrlStep : Statement .ctrlStep := by unfold Statement; decide
theorem setThrust : Statement .setThrust := by unfold Statement; decide
theorem setMotor (m : Motor) : Statement (.setMotor m) := by
  unfold Statement
  revert m
  decide
theorem zeroThrust : Statement .zeroThrust := by unfold Statement; decide
theorem update : Statement .update := by unfold Statement; decide
theorem updateAll : Statement .updateAll := by unfold Statement; decide
theorem clrInteg : Statement .clrInteg := by unfold Statement; decide

end Sys2Proof.Laws.EncodedFields
end

