-- ==== Sys2Proof/Laws/Step.lean ====
section
/-! SUPPORT. What the step does when it is the host's turn with a transaction, and the registers a
transaction can address. -/

namespace Sys2Proof.Machine

/-- The host's turn with the transaction `x` is that transaction, after the turn and the operation are
taken off (R7, R68). -/
theorem step_transaction {x : Transaction} {q : List Turn} {p : List HostOp} {s : State}
    (h : transactionNext x q p s) : step s = busTransaction x ((s.setSched q).setProg p) := by
  obtain ⟨hc, hr, hq, hp⟩ := h
  unfold step machineStep
  rw [if_pos hc, hq]
  show hostTurn (s.setSched q) = _
  unfold hostTurn
  rw [State.setSched_prog, hp, State.setSched_rstActive, hr]
  rfl

/-- Every register stands at its own offset (R22). -/
theorem regAt_regOffset (r : Reg) : regAt (regOffset r) = some r := by
  cases r with
  | thrust m => revert m; decide
  | stage m => revert m; decide
  | lastThr m => revert m; decide
  | lastFrame m => revert m; decide
  | slot m i => revert m i; decide
  | _ => decide

/-- Every register's offset is aligned (R62). -/
theorem regOffset_aligned (r : Reg) : (regOffset r).extractLsb' 0 2 = 0 := by
  cases r with
  | thrust m => revert m; decide
  | stage m => revert m; decide
  | lastThr m => revert m; decide
  | lastFrame m => revert m; decide
  | slot m i => revert m i; decide
  | _ => decide

/-- A 32-bit access at a register's offset addresses that register, unless it writes a read-only one
(R61, R62, R64). -/
theorem legalTarget_at {x : Transaction} {r : Reg} (hs : x.size = 2) (ha : x.addr = regOffset r)
    (hw : (x.write && readOnly r) = false) : legalTarget x = some r := by
  unfold legalTarget
  rw [if_neg (by rw [hs]; decide), if_neg (by rw [ha, regOffset_aligned]; decide), ha, regAt_regOffset]
  simp only [hw]
  rfl

/-- A register a transaction addresses stands at the transaction's offset, and is not written when
read-only (R64). -/
theorem legalTarget_some {x : Transaction} {r : Reg} (h : legalTarget x = some r) :
    x.size = 2 ∧ x.addr.extractLsb' 0 2 = 0 ∧ regAt x.addr = some r
      ∧ (x.write && readOnly r) = false := by
  unfold legalTarget at h
  split at h
  · cases h
  · split at h
    · cases h
    · rename_i h1 h2
      cases hr : regAt x.addr with
      | none =>
        rw [hr] at h
        cases h
      | some r' =>
        rw [hr] at h
        simp only at h
        split at h
        · cases h
        · rename_i h3
          injection h with h
          subst h
          exact ⟨by simpa using h1, by simpa using h2, rfl, by simpa using h3⟩

end Sys2Proof.Machine
end

