-- ==== Sys2Proof/Tests/Slice0.lean ====
section
/-! SUPPORT. Tests of the model: each expected value is written from spec/ (95_test_vectors.md by the name
of its row, or the rule cited), never from the model's own answer. The theorems named `witness_<Name>`
show that the hypotheses of `Obligations.<Name>` can be met. -/

namespace Sys2Proof.Tests

open Sys2Proof Sys2Proof.Machine

/-! ### Helpers -/

/-- What a command leaves, seen through `f`. -/
def after {α : Type} (i : Instr) (s : State) (f : State → α) : Option α :=
  match exec i s with
  | .next t => some (f t)
  | .fault _ => none
  | .refused _ => none

/-- What one step leaves, seen through `f`. -/
def afterStep {α : Type} (s : State) (f : State → α) : Option α :=
  match step s with
  | .next t => some (f t)
  | .fault _ => none
  | .refused _ => none

/-- The reset state with the reference registers of 95_test_vectors.md section 0. -/
def refState : State := { State.reset with regs := referenceRegs }

/-- `s` with the transaction `x` as the host's next and only operation. -/
def withTxn (x : Transaction) (s : State) : State := { s with prog := [.txn x], sched := [.host] }

/-- `s` with one turn scheduled. -/
def withTurn (t : Turn) (s : State) : State := { s with sched := [t] }

/-- The reset state with `TIMED` = false. -/
def untimedState : State := State.initial { Config.reference with timed := false }

/-- All four channels at tick 3 of slot 2. -/
def sending (s : State) : State := { s with chan := Quad.fill (.playing 2 3) }

/-! ### Well-formedness: each check refuses an ill-formed term (R85, R9) -/

theorem test_wf_refuses_zero_denominator : (Value.q 1 0).wf = false := by decide

theorem test_wf_refuses_fraction_of_an_lsb : (Value.q 1 131072).wf = false := by decide

theorem test_wf_refuses_below_range : (Value.q (-32769) 1).wf = false := by decide

theorem test_wf_refuses_above_range : (Value.q 32768 1).wf = false := by decide

theorem test_wf_admits_the_ends :
    (Value.q (-32768) 1).wf = true ∧ (Value.q 2147483647 65536).wf = true := by decide

theorem test_wf_checks_each_literal :
    (HostLine.wr .kpRoll (.q 1 0)).wf = false ∧ (HostLine.override 1 (.q 1 0)).wf = false
    ∧ (HostLine.stage4 (.q 1 0) (.hex 0) (.hex 0) (.hex 0)).wf = false
    ∧ (HostLine.stage4 (.hex 0) (.q 1 0) (.hex 0) (.hex 0)).wf = false
    ∧ (HostLine.stage4 (.hex 0) (.hex 0) (.q 1 0) (.hex 0)).wf = false
    ∧ (HostLine.stage4 (.hex 0) (.hex 0) (.hex 0) (.q 1 0)).wf = false := by decide

theorem test_ill_formed_line_is_not_assembled :
    assemble [.command .nop, .wr .spYaw (.q 1 131072)] = none := by decide

/-! ### Decoding: every constructor's word, its bits `RSV` `CH` `OPC` written out from R80 and R82 -/

theorem test_decode_nop : decode 0b00000000000000000000000000_00_0000#32 = .command .nop := by decide

theorem test_decode_ctrlStep :
    decode 0b00000000000000000000000000_00_0001#32 = .command .ctrlStep := by decide

theorem test_decode_setThrust :
    decode 0b00000000000000000000000000_00_0010#32 = .command .setThrust := by decide

theorem test_decode_setMotor :
    decode 0b00000000000000000000000000_00_0011#32 = .command (.setMotor 0)
    ∧ decode 0b00000000000000000000000000_01_0011#32 = .command (.setMotor 1)
    ∧ decode 0b00000000000000000000000000_10_0011#32 = .command (.setMotor 2)
    ∧ decode 0b00000000000000000000000000_11_0011#32 = .command (.setMotor 3) := by decide

theorem test_decode_zeroThrust :
    decode 0b00000000000000000000000000_00_0100#32 = .command .zeroThrust := by decide

theorem test_decode_update :
    decode 0b00000000000000000000000000_00_0101#32 = .command .update := by decide

theorem test_decode_updateAll :
    decode 0b00000000000000000000000000_00_0110#32 = .command .updateAll := by decide

theorem test_decode_clrInteg :
    decode 0b00000000000000000000000000_00_0111#32 = .command .clrInteg := by decide

/-- ER-1 to ER-5, NO-2. -/
theorem test_decode_illegal :
    decode 0x00000008#32 = .illegal .reservedOpcode ∧ decode 0x0000000F#32 = .illegal .reservedOpcode
    ∧ decode 0x00000010#32 = .illegal .channelNotZero
    ∧ decode 0x00000015#32 = .illegal .channelNotZero
    ∧ decode 0x00000040#32 = .illegal .reservedBits
    ∧ decode 0xFFFFFFFF#32 = .illegal .reservedBits := by decide

/-! ### Arithmetic: rows AR-2, AR-5, AR-12, AR-15, AR-21 -/

theorem test_arithmetic :
    qadd (s32 0x7FFFFFFF) (s32 1) = ⟨s32 0x7FFFFFFF, true⟩
    ∧ qsub (s32 0) (s32 0x80000000) = ⟨s32 0x7FFFFFFF, true⟩
    ∧ qmul (s32 0x00018000) (s32 0xFFFFFFFF) = ⟨s32 0xFFFFFFFE, false⟩
    ∧ qmul (s32 0x80000000) (s32 0xFFFF0000) = ⟨s32 0x7FFFFFFF, true⟩
    ∧ clamp 5 10 3 = 3 := by decide

/-! ### The commands -/

/-- NO-1. -/
theorem test_nop : after .nop { State.reset with sat := true } statusWord = some 0x00010000 := by decide

/-- CL-20. -/
theorem test_ctrlStep_thrusts :
    after .ctrlStep
      { State.reset with
        yawInteg := 0x00010000
        regs := { referenceRegs with
          spRoll := 0x00010000, spPitch := 0xFFFF8000, spYaw := 0x00004000
          estRollRate := 0x00008000, estPitchRate := 0xFFFFC000, estYawRate := 0x00002000 } }
      State.thrust
    = some ⟨0x04308000, 0x034F8000, 0x03818000, 0x055C8000⟩ := by decide

/-- CL-6: the integrator at its negative limit, and `ICLAMP` alone. -/
theorem test_ctrlStep_integrator :
    after .ctrlStep
      { State.reset with
        yawInteg := 0xFFF61000, regs := { referenceRegs with spYaw := 0xFFFF0000 } }
      (fun t => (t.yawInteg, statusWord t))
    = some (0xFFF60000, 0x00000100) := by decide

/-- TH-1. -/
theorem test_setThrust :
    after .setThrust
      { State.reset with
        regs := { referenceRegs with
          stage := ⟨0x00640000, 0x0BB80000, 0xFFFB0000, 0x07FF0000⟩ } }
      (fun t => (t.thrust, statusWord t))
    = some (⟨0x00640000, 0x07FF0000, 0xFFFB0000, 0x07FF0000⟩, 0x00000020) := by decide

/-- TH-3. -/
theorem test_setThrust_bound_zero :
    after .setThrust
      { State.reset with
        regs := { HostRegs.zero with stage := ⟨0x00010000, 0xFFFF0000, 0, 0x7FFFFFFF⟩ } }
      (fun t => (t.thrust, statusWord t))
    = some (⟨0, 0xFFFF0000, 0, 0⟩, 0x00000090) := by decide

/-- TH-4b. -/
theorem test_setMotor :
    after (.setMotor 3)
      { State.reset with
        thrust := Quad.fill 0x03E80000, mclamp := ⟨false, true, false, false⟩
        regs := { referenceRegs with stage := ⟨0, 0, 0x05DC0000, 0x08340000⟩ } }
      (fun t => (t.thrust, statusWord t))
    = some (⟨0x03E80000, 0x03E80000, 0x03E80000, 0x07FF0000⟩, 0x000000A0) := by decide

/-- TH-5. -/
theorem test_zeroThrust :
    after .zeroThrust
      { refState with thrust := Quad.fill 0x04178000, mclamp := Quad.fill true }
      (fun t => (t.thrust, statusWord t))
    = some (⟨0, 0, 0, 0⟩, 0) := by decide

/-- UP-1. -/
theorem test_update :
    after .update { State.reset with thrust := Quad.fill 0x04178000 }
      (fun t => (t.lastThr.m3, t.lastFrame.m0, t.slotBuf.m2, statusWord t))
    = some (0x417, 0x82E4, #v[15, 7, 7, 7, 7, 7, 15, 7, 15, 15, 15, 7, 7, 15, 7, 7, 0],
        0x0000000F) := by decide

/-- UP-2. -/
theorem test_update_while_busy :
    after .update { sending State.reset with thrust := Quad.fill 0x04178000 }
      (fun t => (statusWord t, t.lastFrame.m0, t.chan.m0))
    = some (0x0100000F, 0, .playing 2 3) := by decide

/-- UP-4. -/
theorem test_updateAll :
    after .updateAll
      { State.reset with thrust := ⟨0xFFFB0000, 0x7FFFFFFF, 0x00008000, 0x00300000⟩ }
      (fun t => (t.lastThr, t.lastFrame))
    = some (⟨0, 2047, 0, 48⟩, ⟨0x0000, 0xFFEE, 0x0000, 0x0606⟩) := by decide

/-- UP-3. -/
theorem test_updateAll_after_fault :
    after .updateAll { State.reset with fault := true, lastFrame := Quad.fill 0x82E4 }
      (fun t => (statusWord t, t.lastFrame))
    = some (0x01000000, Quad.fill 0x82E4) := by decide

/-- CI-1. -/
theorem test_clrInteg :
    after .clrInteg { State.reset with yawInteg := 0x000A0000, iclamp := true }
      (fun t => (t.yawInteg, statusWord t))
    = some (0, 0) := by decide

/-! ### Encoder: rows of EN-1 to EN-3, EN-5, EN-6 -/

theorem test_throttle :
    throttle 0x08000000 = 2047 ∧ throttle 0x0000FFFF = 0 ∧ throttle 0x002FFFFF = 47
    ∧ throttle 0x80000000 = 0 ∧ throttle 0x7FFFFFFF = 2047 := by decide

theorem test_frames :
    dshotFrame 0 15 = 0x01EF ∧ dshotFrame 1 1000 = 0x7D1B ∧ dshotFrame 0 1500 = 0xBB88
    ∧ dshotFrame 1 2047 = 0xFFFF := by decide

theorem test_probe :
    afterStep (withTxn (writeTxn 0x0A8 0xFFFFFFFF) State.reset)
      (fun t => (readReg t .encIn, readReg t .encFrame)) = some (0x000007FF, 0x0000FFEE) := by decide

theorem test_compare_values :
    dshotCmpWord { Config.reference with period := 140 } = 0x00690033
    ∧ dshotCfgWord { Config.reference with period := 140 } = 0x254B008C
    ∧ dshotCfgWord { Config.reference with tlm := 1 } = 0xA54B0014
    ∧ configValid { Config.reference with period := 3 } = true
    ∧ configValid { Config.reference with period := 1 } = false
    ∧ configValid { Config.reference with duty1 := 37, duty0 := 75 } = false := by decide

theorem test_receiver_check :
    frameAccepted 0x82C6 = true ∧ frameAccepted 0x02C6 = false ∧ frameAccepted 0x82D6 = false
    ∧ frameAccepted 0x82C7 = false ∧ frameAccepted 0x0AC6 = true := by decide

/-! ### Channel engines: rows of UP-6, UP-8 -/

theorem test_last_tick_ends_the_frame :
    afterStep (withTurn .clk { State.reset with chan := Quad.fill (.playing 16 19) }) statusWord = some 0
    ∧ afterStep (withTurn .clk { State.reset with chan := Quad.fill (.playing 15 19) })
        (fun t => t.chan.m1) = some (.playing 16 0) := by decide

theorem test_line_level :
    dshotOut { State.reset with
      slotBuf := Quad.fill (slots Config.reference 0x82C6), chan := Quad.fill (.playing 6 14) } 0
        = some true
    ∧ dshotOut { State.reset with
      slotBuf := Quad.fill (slots Config.reference 0x82C6), chan := Quad.fill (.playing 6 15) } 0
        = some false := by decide

/-! ### The bus: rows ER-6 to ER-15 -/

theorem test_command_on_the_bus :
    afterStep (withTxn (writeTxn 0x000 0x00000013)
      { refState with thrust := Quad.fill 0x00010000 }) (fun t => (t.thrust, t.resp))
    = some (⟨0x00010000, 0, 0x00010000, 0x00010000⟩, .written false) := by decide

theorem test_illegal_command_on_the_bus :
    afterStep (withTxn (writeTxn 0x000 0x00000015) refState)
      (fun t => (statusWord t, t.resp, t.chan.m1)) = some (0x00020000, .written false, .idle) := by
  decide

theorem test_bus_errors :
    afterStep (withTxn (writeTxn 0x080 0x12345678) refState)
        (fun t => (t.thrust.m0, t.resp, statusWord t)) = some (0, .written true, 0)
    ∧ afterStep (withTxn (readTxn 0x144) refState) State.resp = some (.read 0 true)
    ∧ afterStep (withTxn { write := true, addr := 0x000, size := 1, wdata := 8 } refState)
        (fun t => (t.resp, t.illegal)) = some (.written true, false) := by decide

theorem test_yaw_limit_bit_31 :
    afterStep (withTxn (writeTxn 0x02C 0xFFF60000) State.reset) (fun t => readReg t .yawILimit)
      = some 0x7FF60000 := by decide

theorem test_status_clear :
    afterStep (withTxn (writeTxn 0x004 0xFFFFFFFF)
        { State.reset with fault := true, sat := true, illegal := true }) statusWord = some 0x01000000
    ∧ afterStep (withTxn (writeTxn 0x004 0x00010000)
        { State.reset with sat := true, illegal := true }) statusWord = some 0x00020000 := by decide

theorem test_register_map :
    regAt 0x100 = some (.slot 0 0) ∧ regAt 0x2C0 = some (.slot 3 16) ∧ regAt 0x2C4 = none
    ∧ regAt 0x078 = some .yawInteg ∧ regAt 0x07C = none ∧ regAt 0x09C = some (.stage 3) := by decide

/-! ### Host interface (P2 lines 8 and 9, R230) -/

theorem test_assemble :
    assemble [.override 2 (.q 6003 4)]
      = some [.txn (writeTxn 0x098 0x05DCC000), .txn (writeTxn 0x000 0x00000023)] := by decide

theorem test_fetch_word :
    afterStep (State.reset.withFetchWord 32 0x00000005) statusWord = some 0x0000000F := by decide

theorem test_reset_cuts_a_frame :
    afterStep (withTurn (.rst true) (sending refState))
      (fun t => (t.chan, dshotOut t 0, readReg t .kpRoll)) = some (Quad.fill .idle, some false, 0) := by
  decide

/-! ### Witnesses: encoding and the step -/

theorem witness_IllegalWordSetsOnlyIllegal :
    (transactionNext (commandTxn 0x00000008) [] [] (withTxn (commandTxn 0x00000008) refState)
      ∧ decode 0x00000008#32 = .illegal .reservedOpcode)
    ∧ (transactionNext (commandTxn 0x00000040) [] [] (withTxn (commandTxn 0x00000040) refState)
      ∧ decode 0x00000040#32 = .illegal .reservedBits)
    ∧ transactionNext (commandTxn 0x00000034) [] [] (withTxn (commandTxn 0x00000034) refState)
      ∧ decode 0x00000034#32 = .illegal .channelNotZero := by decide

theorem witness_StepRunsDecodedCommand :
    (transactionNext (commandTxn 0x00000033) [] [] (withTxn (commandTxn 0x00000033) refState)
      ∧ decode 0x00000033#32 = .command (.setMotor 3))
    ∧ configValid refState.cfg = true ∧ decodeTableWord 32 0x00000033 = some (.setMotor 3) := by decide

theorem witness_OnlyInvalidConfigurationRefused :
    (0 < refState.cfg.period.toNat * refState.cfg.duty0.toNat / 100
      ∧ refState.cfg.period.toNat * refState.cfg.duty0.toNat / 100
        < refState.cfg.period.toNat * refState.cfg.duty1.toNat / 100
      ∧ refState.cfg.period.toNat * refState.cfg.duty1.toNat / 100 < refState.cfg.period.toNat)
    ∧ configValid { Config.reference with period := 2 } = false
    ∧ configValid { Config.reference with duty1 := 100 } = false
    ∧ configValid Config.reference = true ∧ (15 : SlotIx).val < 16
    ∧ (0x0001#16).getLsbD (15 - (15 : SlotIx).val) = true
    ∧ (0xFFFE#16).getLsbD (15 - (15 : SlotIx).val) = false := by decide

theorem witness_ValidConfigurationInRange :
    configValid { Config.reference with period := 3, duty1 := 67, duty0 := 34 } = true
    ∧ configValid { Config.reference with period := 65535, duty1 := 99, duty0 := 1 } = true := by decide

theorem witness_StepKeepsInvariant :
    State.reset.Inv ∧ (withTxn (commandTxn 0x00000005) State.reset).Inv
    ∧ (∃ t, step State.reset = .next t)
    ∧ ∃ t, step (withTxn (commandTxn 0x00000005) State.reset) = .next t :=
  ⟨by decide, by decide, ⟨_, rfl⟩, ⟨_, rfl⟩⟩

theorem witness_ResetMeetsInvariant : configValid { Config.reference with timed := false } = true := by
  decide

/-! ### Witnesses: who may change what -/

theorem witness_StickyBitsClearedOnlyAsStated :
    (∃ s t, step s = .next t ∧ s.fault = true ∧ t.fault = false)
    ∧ (∃ s t, step s = .next t ∧ s.sat = true ∧ t.sat = false ∧ s.rstActive = false)
    ∧ (∃ s t, step s = .next t ∧ s.illegal = true ∧ t.illegal = false ∧ s.rstActive = false)
    ∧ transactionNext (writeTxn 0x004 0x00030000) [] [] (withTxn (writeTxn 0x004 0x00030000) refState) :=
  ⟨⟨withTurn (.rst true) { refState with fault := true }, _, rfl, rfl, rfl⟩,
    ⟨withTxn (writeTxn 0x004 0x00010000) { refState with sat := true }, _, rfl, rfl, rfl, rfl⟩,
    ⟨withTxn (writeTxn 0x004 0x00020000) { refState with illegal := true }, _, rfl, rfl, rfl, rfl⟩,
    by decide⟩

theorem witness_OnlyTwoCommandsWriteIntegrator :
    ∃ s t, step s = .next t ∧ t.yawInteg ≠ s.yawInteg :=
  ⟨withTxn (commandTxn 7) { refState with yawInteg := 5 }, _, rfl, by decide⟩

theorem witness_OnlyFourCommandsWriteThrust :
    (∃ s t, step s = .next t ∧ t.thrust ≠ s.thrust) ∧ ∃ s t, step s = .next t ∧ t.mclamp ≠ s.mclamp :=
  ⟨⟨withTxn (commandTxn 4) { refState with thrust := Quad.fill 5 }, _, rfl, by decide⟩,
    ⟨withTxn (commandTxn 4) { refState with mclamp := Quad.fill true }, _, rfl, by decide⟩⟩

theorem witness_BuffersChangeOnlyWhileIdle :
    (∃ s t, step s = .next t ∧ t.slotBuf ≠ s.slotBuf) ∧ (∃ s t, step s = .next t ∧ t.lastThr ≠ s.lastThr)
    ∧ ∃ s t, step s = .next t ∧ t.lastFrame ≠ s.lastFrame :=
  ⟨⟨withTxn (commandTxn 5) refState, _, rfl, by decide⟩,
    ⟨withTxn (commandTxn 6) { refState with thrust := Quad.fill 0x04178000 }, _, rfl, by decide⟩,
    ⟨withTxn (commandTxn 6) { refState with thrust := Quad.fill 0x04178000 }, _, rfl, by decide⟩⟩

theorem witness_OnlyHostWritesItsRegisters : ∃ s t, step s = .next t ∧ t.regs ≠ s.regs :=
  ⟨withTxn (writeTxn 0x09C 5) refState, _, rfl, by decide⟩

theorem witness_FramesAreNeverCutShort :
    (∃ s t, step s = .next t ∧ s.chan.get 2 = .playing 16 19 ∧ t.chan.get 2 = .idle)
    ∧ (∃ s t, step s = .next t ∧ s.cfg.timed = false ∧ s.chan.get 2 = .playing 2 3
        ∧ t.chan.get 2 = .idle)
    ∧ ∃ s t, step s = .next t ∧ s.chan.get 2 = .playing 2 3 ∧ t.chan.get 2 = .idle :=
  ⟨⟨withTurn .clk { refState with chan := Quad.fill (.playing 16 19) }, _, rfl, rfl, rfl⟩,
    ⟨withTurn (.finish 2) (sending untimedState), _, rfl, rfl, rfl, rfl⟩,
    ⟨withTurn (.rst true) (sending refState), _, rfl, rfl, rfl⟩⟩

theorem witness_EnginesWriteOnlyTheirState :
    (configValid refState.cfg = true ∧ refState.cfg.timed = true
      ∧ (withTurn .clk refState).sched = .clk :: [] ∧ refState.sched = [])
    ∧ (configValid untimedState.cfg = true ∧ untimedState.cfg.timed = false
      ∧ (withTurn (.finish 3) untimedState).sched = .finish 3 :: [])
    ∧ 18 + 1 < Config.reference.period.toNat ∧ Config.reference.period.toNat ≤ 19 + 1
    ∧ (16 : SlotIx).val = (15 : SlotIx).val + 1 := by decide

/-! ### Witnesses: the bus -/

theorem witness_LegalReadChangesNothing :
    transactionNext (readTxn 0x2C0) [] [] (withTxn (readTxn 0x2C0) refState)
    ∧ (readTxn 0x2C0).write = false ∧ (readTxn 0x2C0).size = 2#2
    ∧ (readTxn 0x2C0).addr = regOffset (.slot 3 16) := by decide

/-- A narrow transaction, and a misaligned one. -/
theorem witness_BusErrorChangesNothing_shape :
    (transactionNext { write := true, addr := 0x000, size := 1, wdata := 5 } [] []
        (withTxn { write := true, addr := 0x000, size := 1, wdata := 5 } refState) ∧ (1 : BitVec 2) ≠ 2#2)
    ∧ transactionNext (readTxn 0x3FF) [] [] (withTxn (readTxn 0x3FF) refState)
      ∧ (0x3FF : Offset).toNat % 4 ≠ 0 ∧ (0x001 : Offset).toNat % 4 ≠ 0 := by decide

/-- Transactions at reserved offsets, at ends of the reserved ranges. -/
theorem witness_BusErrorChangesNothing_reserved :
    transactionNext (readTxn 0x3FC) [] [] (withTxn (readTxn 0x3FC) refState)
    ∧ reservedOffset 0x3FC ∧ reservedOffset 0x008 ∧ reservedOffset 0x144 ∧ reservedOffset 0x2FC :=
  ⟨by decide, by decide, by decide, by decide, by decide⟩

/-- Writes to read-only registers, at the first and the last. -/
theorem witness_BusErrorChangesNothing :
    transactionNext (writeTxn 0x2C0 0) [] [] (withTxn (writeTxn 0x2C0 0) refState)
    ∧ (writeTxn 0x2C0 0).write = true ∧ readOnlyOffset 0x2C0 ∧ readOnlyOffset 0x078 :=
  ⟨by decide, rfl, by decide, by decide⟩

theorem witness_RegisterMapIsExact :
    regAt 0x2C0 = some (.slot 3 16) ∧ regAt 0x000 = some .cmd ∧ (0x3FC : Offset).toNat % 4 = 0 := by decide

theorem witness_PlainWriteReadsBack :
    transactionNext (writeTxn (regOffset (.stage 3)) 0xFFFFFFFF) [] []
      (withTxn (writeTxn (regOffset (.stage 3)) 0xFFFFFFFF) refState)
    ∧ plainRegister (.stage 3) = true ∧ Reg.stage 2 ≠ .stage 3 := by decide

theorem witness_YawLimitBit31IsHardwired :
    transactionNext (writeTxn 0x02C 0xFFFFFFFF) [] [] (withTxn (writeTxn 0x02C 0xFFFFFFFF) refState)
    ∧ Reg.kpRoll ≠ .yawILimit := by decide

theorem witness_EncoderProbe :
    transactionNext (writeTxn 0x0A8 0xFFFFFFFF) [] [] (withTxn (writeTxn 0x0A8 0xFFFFFFFF) refState)
    ∧ Reg.dshotCmp ≠ .encIn ∧ Reg.dshotCmp ≠ .encFrame := by decide

theorem witness_StatusFieldsAndClear :
    transactionNext (writeTxn 0x004 0x00030000) [] [] (withTxn (writeTxn 0x004 0x00030000) refState)
    ∧ Reg.cmd ≠ .status := by decide

theorem witness_ParameterRegistersAreConstant :
    configValid refState.cfg = true ∧ ∃ t, step refState = .next t := ⟨by decide, ⟨_, rfl⟩⟩

theorem witness_ResetHoldsTheBlock :
    (configValid refState.cfg = true
      ∧ (withTurn (.rst true) (sending refState)).sched = .rst true :: [])
    ∧ (configValid (resetState true refState).cfg = true ∧ (resetState true refState).rstActive = true
      ∧ (withTxn (commandTxn 5) (resetState true refState)).sched = .host :: []
      ∧ (withTxn (commandTxn 5) (resetState true refState)).prog = .txn (commandTxn 5) :: [])
    ∧ (withTurn (.rst false) (resetState true refState)).sched = .rst false :: [] := by decide

/-! ### Witnesses: the control law -/

/-- The values of x that reach each clause, the ends included. -/
theorem witness_ClampBounds :
    (-10 : Int) ≤ 10 ∧ (-10 : Int) ≤ -10 ∧ (10 : Int) ≤ 10 ∧ (3 : Int) < 10 := by decide

theorem witness_CtrlStepComputesControlLaw :
    ∃ s : State, s.yawInteg = 0 ∧ s.regs = { referenceRegs with
      spRoll := 0x00008000, estRoll := 0x00004000, estRollRate := 0x00002000 } :=
  ⟨{ State.reset with regs := { referenceRegs with
      spRoll := 0x00008000, estRoll := 0x00004000, estRollRate := 0x00002000 } }, rfl, rfl⟩

theorem witness_ThrustBoundsPerWriter :
    s32 refState.regs.thrustMin ≤ s32 refState.regs.thrustMax
    ∧ s32 State.reset.regs.thrustMin ≤ s32 State.reset.regs.thrustMax
    ∧ s32 (0x00320000 : Word) < s32 (0x00640000 : Word)
    ∧ (transactionNext (writeTxn 0x03C 5) [] [] (withTxn (writeTxn 0x03C 5) refState)
      ∧ ∃ t, step (withTxn (writeTxn 0x03C 5) refState) = .next t)
    ∧ transactionNext (writeTxn 0x040 5) [] [] (withTxn (writeTxn 0x040 5) refState)
      ∧ ∃ t, step (withTxn (writeTxn 0x040 5) refState) = .next t :=
  ⟨by decide, by decide, by decide, ⟨by decide, ⟨_, rfl⟩⟩, ⟨by decide, ⟨_, rfl⟩⟩⟩

/-- Both values of `ICLAMP` (CL-4, CL-5). -/
theorem witness_IntegratorStaysWithinLimit :
    after .ctrlStep { State.reset with regs := { referenceRegs with spYaw := 0x00010000 } } State.iclamp
      = some false
    ∧ after .ctrlStep { State.reset with
        yawInteg := 0x0009F000, regs := { referenceRegs with spYaw := 0x00010000 } } State.iclamp
      = some true := by decide

theorem witness_ZeroErrorGivesBaseThrust :
    refState.regs.spRoll = refState.regs.estRoll ∧ refState.regs.spPitch = refState.regs.estPitch
    ∧ refState.regs.spYaw = refState.regs.estYaw ∧ refState.regs.estRollRate = 0
    ∧ refState.regs.estPitchRate = 0 ∧ refState.regs.estYawRate = 0 ∧ refState.yawInteg = 0
    ∧ s32 refState.regs.thrustMin ≤ s32 refState.regs.thrustMax
    ∧ s32 refState.regs.thrustMax - s32 refState.regs.thrustMin < 2 ^ 31 := by decide

theorem witness_BaseThrustBetweenBounds :
    s32 refState.regs.thrustMin ≤ s32 refState.regs.thrustMax
    ∧ s32 refState.regs.thrustMax - s32 refState.regs.thrustMin < 2 ^ 31
    ∧ s32 State.reset.regs.baseFrac ≤ 0 ∧ s32 0xFFFFFFFB#32 ≤ 0 ∧ (0x00010000 : Int) ≤ s32 0x00010000#32 := by
  decide

/-- CL-15. -/
theorem witness_IntegratorRampsToLimit :
    ∃ s : State, s.yawInteg = 0
      ∧ (qmul (s32 s.regs.kiYaw) (qsub (s32 s.regs.spYaw) (s32 s.regs.estYaw)).val).val = 0x2000
      ∧ (0x2000 : Int) + s32 (readReg s .yawILimit) < 2 ^ 31
      ∧ -2 ^ 31 ≤ (0x2000 : Int) - s32 (readReg s .yawILimit) :=
  ⟨{ State.reset with regs := { referenceRegs with spYaw := 0x00010000 } }, rfl, by decide, by decide,
    by decide⟩

/-! ### Witnesses: ThrustCommand, the encoder, transmission -/

theorem witness_SetThrustBoundsStagedTuple :
    ∃ s : State, s.regs.stage = ⟨0x00640000#32, 0x0BB80000#32, 0xFFFB0000#32, 0x07FF0000#32⟩
      ∧ s.regs.thrustMax = 0x07FF0000#32 :=
  ⟨{ State.reset with regs := { referenceRegs with
      stage := ⟨0x00640000, 0x0BB80000, 0xFFFB0000, 0x07FF0000⟩ } }, rfl, rfl⟩

theorem witness_SetMotorWritesOneMotor : (0 : Motor) ≠ 3 ∧ (3 : Motor) ≠ 0 := by decide

theorem witness_ThrottleRoundsDownAndSaturates :
    s32 0xFFFFFFFF#32 < 0 ∧ 2047 * 2 ^ 16 ≤ s32 0x07FF0000#32
    ∧ (0 ≤ s32 0x00000000#32 ∧ s32 0x00000000#32 < 2047 * 2 ^ 16)
    ∧ 0 ≤ s32 0x07FEFFFF#32 ∧ s32 0x07FEFFFF#32 < 2047 * 2 ^ 16 := by decide

theorem witness_SingleBitErrorsAreDetected : frameAccepted 0x82C6 = true ∧ (3 : Fin 4) ≠ 2 := by decide

theorem witness_ReceiverRecoversFrame : configValid Config.reference = true := by decide

theorem witness_SlotsCarryFrameBits :
    configValid Config.reference = true ∧ (0 : SlotIx).val < 16 ∧ (15 : SlotIx).val < 16 := by decide

theorem witness_UpdateStartsAllChannels :
    refState.fault = false ∧ ∀ m : Motor, refState.chan.get m = .idle := by decide

theorem witness_UpdateWhileBusyIsStartFailure :
    (sending refState).fault = false ∧ busyChannel (sending refState) 3 := by decide

theorem witness_UpdateAfterFaultHasNoEffect :
    ({ sending refState with fault := true } : State).fault = true := by decide

/-- The hypotheses, and an `n` below and at the end of the frame. -/
theorem witness_UpdatePutsFrameOnTheWire :
    (transactionNext (commandTxn 0x00000005) [] [] (withTxn (commandTxn 0x00000005) refState)
      ∧ refState.cfg.timed = true ∧ refState.fault = false ∧ ∀ m : Motor, refState.chan.get m = .idle)
    ∧ (transactionNext (commandTxn 0x00000006) [] [] (withTxn (commandTxn 0x00000006) refState))
    ∧ 339 < 17 * refState.cfg.period.toNat ∧ 17 * refState.cfg.period.toNat ≤ 340 := by decide

/-- One state for each of the two schedules. -/
theorem witness_UntimedUpdateAdmitsBothOutcomes :
    (configValid (sending untimedState).cfg = true ∧ untimedState.cfg.timed = false
      ∧ untimedState.rstActive = false ∧ untimedState.fault = false
      ∧ busyChannel (sending untimedState) 0)
    ∧ (withTxn (commandTxn 0x00000005) (sending untimedState)).prog = .txn (commandTxn 0x00000005) :: []
    ∧ (withTxn (commandTxn 0x00000005) (sending untimedState)).sched = .host :: []
    ∧ ({ withTxn (commandTxn 0x00000005) (sending untimedState) with
          sched := [.finish 0, .finish 1, .finish 2, .finish 3, .host] } : State).sched
        = .finish 0 :: .finish 1 :: .finish 2 :: .finish 3 :: .host :: [] := by decide

theorem witness_OnlyAStoppedClockStops :
    configValid refState.cfg = true ∧ (∃ q, (withTurn .clkStop refState).sched = .clkStop :: q)
    ∧ ∀ q, refState.sched ≠ .clkStop :: q :=
  ⟨by decide, ⟨[], rfl⟩, fun _ h => by cases h⟩

theorem witness_CommandsWriteOnlyNamedRegisters :
    (∃ t, exec .ctrlStep refState = .next t) ∧ Reg.stage 3 ≠ .status
    ∧ (∃ t, exec (.setMotor 3) refState = .next t) ∧ (0 : Motor) ≠ 3 :=
  ⟨⟨_, rfl⟩, by decide, ⟨_, rfl⟩, by decide⟩

/-- `q(1500.75)`, and both ends of the range of a literal. -/
theorem witness_HostLinesAssemble :
    ((4 : Int) ∣ 6003 * 2 ^ 16 ∧ -2 ^ 31 * 4 ≤ (6003 : Int) * 2 ^ 16
      ∧ (6003 : Int) * 2 ^ 16 ≤ (2 ^ 31 - 1) * 4)
    ∧ ((1 : Int) ∣ -32768 * 2 ^ 16 ∧ -2 ^ 31 * 1 ≤ (-32768 : Int) * 2 ^ 16)
    ∧ (65536 : Int) ∣ 2147483647 * 2 ^ 16 ∧ (2147483647 : Int) * 2 ^ 16 ≤ (2 ^ 31 - 1) * 65536 := by
  decide

theorem witness_PseudoInstructionsExpand :
    (configValid refState.cfg = true ∧ refState.rstActive = false
      ∧ ({ refState with sched := [.host], prog := [.pollIdle] } : State).sched = .host :: []
      ∧ ({ refState with sched := [.host], prog := [.pollIdle] } : State).prog = .pollIdle :: [])
    ∧ (∀ m : Motor, refState.chan.get m = .idle) ∧ ∃ m : Motor, busyChannel (sending refState) m := by
  decide

end Sys2Proof.Tests
end

section
/-! PROOFS. The scope statements (00_scope.md): which configurations are valid and what a valid one
gives on the wire (R6), that nothing but an invalid configuration is refused, and `clamp` (R14). -/

namespace Sys2Proof.Machine

/-! ### Validity of a configuration (R6) -/

theorem configValid_iff (c : Config) :
    configValid c = true ↔
      0 < compareZero c ∧ compareZero c < compareOne c ∧ compareOne c < c.period.toNat := by
  simp [configValid, and_assoc]

/-- In a valid configuration `C1` fits the 16 bits of a slot register. -/
theorem compareOne_lt_of_valid {c : Config} (h : configValid c = true) : compareOne c < 2 ^ 16 := by
  obtain ⟨_, _, hone⟩ := (configValid_iff c).1 h
  exact hone.trans c.period.isLt

/-- In a valid configuration `C0` fits the 16 bits of a slot register. -/
theorem compareZero_lt_of_valid {c : Config} (h : configValid c = true) : compareZero c < 2 ^ 16 := by
  obtain ⟨_, hzero, _⟩ := (configValid_iff c).1 h
  exact hzero.trans (compareOne_lt_of_valid h)

/-! ### The line level of each kind of slot (R165, R170) -/

theorem lineLevel_slots (c : Config) (fr : Frame) (i : SlotIx) (t : Nat) :
    lineLevel (slots c fr) i t = decide (t < (slotValue c fr i.val).toNat) := by
  simp [lineLevel, slots]

/-- The slot of a 1 bit is high during its first `C1` ticks. -/
theorem lineLevel_oneBit {c : Config} {fr : Frame} {i : SlotIx} (h : configValid c = true)
    (hi : i.val < 16) (hbit : fr.getLsbD (15 - i.val) = true) (t : Nat) :
    lineLevel (slots c fr) i t = decide (t < compareOne c) := by
  have hval : slotValue c fr i.val = BitVec.ofNat 16 (compareOne c) := by simp [slotValue, hi, hbit]
  rw [lineLevel_slots, hval, BitVec.toNat_ofNat, Nat.mod_eq_of_lt (compareOne_lt_of_valid h)]

/-- The slot of a 0 bit is high during its first `C0` ticks. -/
theorem lineLevel_zeroBit {c : Config} {fr : Frame} {i : SlotIx} (h : configValid c = true)
    (hi : i.val < 16) (hbit : fr.getLsbD (15 - i.val) = false) (t : Nat) :
    lineLevel (slots c fr) i t = decide (t < compareZero c) := by
  have hval : slotValue c fr i.val = BitVec.ofNat 16 (compareZero c) := by
    simp [slotValue, hi, hbit]
  rw [lineLevel_slots, hval, BitVec.toNat_ofNat, Nat.mod_eq_of_lt (compareZero_lt_of_valid h)]

/-- The reset slot is low throughout. -/
theorem lineLevel_resetSlot (c : Config) (fr : Frame) (t : Nat) :
    lineLevel (slots c fr) 16 t = false := by
  simp [lineLevel_slots, slotValue]

/-- R6: in a valid configuration the three waveforms differ pairwise. The first `C0` ticks tell each
bit from the reset slot, the ticks from `C0` to `C1` tell the bits apart. -/
theorem waveforms_distinct_of_valid {c : Config} {one zero : Frame} {i : SlotIx}
    (h : configValid c = true) (hi : i.val < 16) (hone : one.getLsbD (15 - i.val) = true)
    (hzero : zero.getLsbD (15 - i.val) = false) :
    (∃ t < c.period.toNat, lineLevel (slots c one) i t = true ∧ lineLevel (slots c zero) i t = false)
      ∧ (∃ t < c.period.toNat, lineLevel (slots c zero) i t = true
          ∧ lineLevel (slots c zero) 16 t = false)
      ∧ ∃ t < c.period.toNat, lineLevel (slots c one) i t = true
          ∧ lineLevel (slots c one) 16 t = false := by
  obtain ⟨hpos, hlt, hper⟩ := (configValid_iff c).1 h
  simp only [lineLevel_oneBit h hi hone, lineLevel_zeroBit h hi hzero, lineLevel_resetSlot,
    decide_eq_true_eq, decide_eq_false_iff_not, and_true]
  exact ⟨⟨compareZero c, hlt.trans hper, hlt, lt_irrefl _⟩, ⟨0, by omega, hpos⟩,
    ⟨0, by omega, hpos.trans hlt⟩⟩

/-! ### What completes (R6, R200, R201, R203) -/

/-- No command is refused or faults (R200). -/
theorem exec_completes (i : Instr) (s : State) : ∃ t, exec i s = .next t := by
  cases i <;> exact ⟨_, rfl⟩

/-- A command word completes, legal or not (R201). -/
theorem commandEngine_completes (w : Word) (s : State) : ∃ t, commandEngine w s = .next t := by
  unfold commandEngine
  cases Sys2Proof.decode w with
  | command i => exact exec_completes i s
  | illegal why => exact ⟨_, rfl⟩

theorem regWrite_completes (r : Reg) (v : Word) (s : State) : ∃ t, regWrite r v s = .next t := by
  unfold regWrite
  split
  · exact commandEngine_completes v _
  · exact ⟨_, rfl⟩

/-- A transaction completes; a rejected one ends in a bus error (R203). -/
theorem busTransaction_completes (x : Transaction) (s : State) :
    ∃ t, busTransaction x s = .next t := by
  unfold busTransaction
  cases legalTarget x with
  | none => exact ⟨_, rfl⟩
  | some r =>
    cases x.write with
    | true => exact regWrite_completes r x.wdata s
    | false => exact ⟨_, rfl⟩

theorem hostTurn_completes (s : State) : ∃ t, hostTurn s = .next t := by
  unfold hostTurn
  cases s.prog with
  | nil => exact ⟨_, rfl⟩
  | cons op rest =>
    cases op with
    | txn x =>
      cases s.rstActive with
      | true => exact ⟨_, rfl⟩
      | false => exact busTransaction_completes x _
    | pollIdle =>
      cases s.rstActive with
      | true => exact ⟨_, rfl⟩
      | false => exact ⟨_, rfl⟩

/-- Every turn completes but the end of `clk`, which is a fault (R213). -/
theorem takeTurn_outcome (u : Turn) (s : State) :
    (u ≠ .clkStop ∧ ∃ t, takeTurn u s = .next t)
      ∨ (u = .clkStop ∧ takeTurn u s = .fault .clockStopped) := by
  cases u with
  | host => exact Or.inl ⟨nofun, hostTurn_completes s⟩
  | clk => exact Or.inl ⟨nofun, _, rfl⟩
  | finish m => exact Or.inl ⟨nofun, _, rfl⟩
  | rst active => exact Or.inl ⟨nofun, _, rfl⟩
  | clkStop => exact Or.inr ⟨rfl, rfl⟩

/-- R6: an invalid configuration is refused. -/
theorem step_of_invalid {s : State} (h : configValid s.cfg = false) :
    step s = .refused .invalidConfiguration := by
  simp [step, machineStep, h]

/-- In a valid configuration a step completes, unless `clk` stops (R6, R213). -/
theorem step_of_valid {s : State} (h : configValid s.cfg = true) :
    ((∀ q, s.sched ≠ .clkStop :: q) ∧ ∃ t, step s = .next t)
      ∨ ((∃ q, s.sched = .clkStop :: q) ∧ step s = .fault .clockStopped) := by
  unfold step machineStep
  rw [if_pos h]
  cases s.sched with
  | nil => exact Or.inl ⟨nofun, _, rfl⟩
  | cons u q =>
    rcases takeTurn_outcome u (s.setSched q) with ⟨hne, hnext⟩ | ⟨rfl, hfault⟩
    · exact Or.inl ⟨fun q' heq => hne (List.cons.inj heq).1, hnext⟩
    · exact Or.inr ⟨⟨q, rfl⟩, hfault⟩

theorem step_not_refused_of_valid {s : State} (h : configValid s.cfg = true) (r : Refusal) :
    step s ≠ .refused r := by
  rcases step_of_valid h with ⟨_, t, hnext⟩ | ⟨_, hfault⟩
  · rw [hnext]; exact nofun
  · rw [hfault]; exact nofun

/-! ### `clamp` (R14) -/

/-- A value between the bounds is kept. -/
theorem clamp_of_mem {x lo hi : Int} (hlo : lo ≤ x) (hhi : x ≤ hi) : clamp x lo hi = x := by
  rw [clamp, max_eq_left hlo, min_eq_left hhi]

/-- With crossed bounds the result is the upper bound. -/
theorem clamp_of_crossed (x : Int) {lo hi : Int} (h : hi < lo) : clamp x lo hi = hi := by
  rw [clamp, min_eq_right (h.le.trans (le_max_right x lo))]

end Sys2Proof.Machine

namespace Sys2Proof.Proofs

open Sys2Proof.Machine

/-- Settles O6: a valid configuration's step completes or faults, an invalid one's is refused, and the
compare values tell the waveforms apart. -/
theorem onlyInvalidConfigurationRefused : Obligations.OnlyInvalidConfigurationRefused := by
  refine ⟨fun s => ⟨fun hvalid => ?_, fun hinvalid => ?_⟩, by decide, ?_⟩
  · exact step_not_refused_of_valid ((configValid_iff s.cfg).2 hvalid)
  · have hfalse : configValid s.cfg = false :=
      Bool.eq_false_iff.2 fun h => hinvalid ((configValid_iff s.cfg).1 h)
    exact step_of_invalid hfalse
  · intro c one zero i hc hi hone hzero
    exact waveforms_distinct_of_valid hc hi hone hzero

/-- Settles O28, by the order of the bounds. -/
theorem clampBounds : Obligations.ClampBounds := by
  refine fun x lo hi => ⟨rfl, fun hle => ?_, clamp_of_crossed x⟩
  obtain ⟨hlo, hhi⟩ := clamp_bounds (x := x) hle
  exact ⟨hlo, hhi, clamp_of_mem⟩

end Sys2Proof.Proofs
end

section
/-! PROOFS. The registers with a rule of their own (10_state.md): `YAW_I_LIMIT` (R26), `ENC_IN` and
`ENC_FRAME` (R37, R38), and the constant `DSHOT_CFG` and `DSHOT_CMP` (R35, R36). -/

namespace Sys2Proof.Machine

/-! ### A register write and what is read after it (R65, R66) -/

/-- The host's write to a writable register other than `CMD` is `writeReg`. -/
theorem step_registerWrite {r : Reg} {v : Word} {q : List Turn} {p : List HostOp} {s : State}
    (h : transactionNext (writeTxn (regOffset r) v) q p s) (hcmd : r ≠ .cmd)
    (hrw : readOnly r = false) :
    step s = .next (writeReg r v (answered s q p (.written false))) := by
  have htarget : legalTarget (writeTxn (regOffset r) v) = some r :=
    legalTarget_at rfl rfl (by rw [hrw, Bool.and_false])
  rw [step_transaction h, busTransaction, htarget]
  exact if_neg hcmd

/-- The turn taken, the operation issued and the answer given show in no register. -/
@[simp] theorem readReg_answered (s : State) (q : List Turn) (p : List HostOp) (a : BusResponse)
    (r : Reg) : readReg (answered s q p a) r = readReg s r := by
  cases r <;> rfl

/-- A write leaves every other register, but `ENC_FRAME` where the write is to `ENC_IN`: no two other
registers share what they read (R22). -/
theorem readReg_writeReg_of_ne {r r' : Reg} (hne : r' ≠ r)
    (hprobe : r = .encIn → r' ≠ .encFrame) (v : Word) (s : State) :
    readReg (writeReg r v s) r' = readReg s r' := by
  cases r with
  | stage m =>
    cases r' with
    | stage n =>
      have hn : n ≠ m := fun h => hne (congrArg Reg.stage h)
      exact (Quad.get_set s.regs.stage m n v).trans (if_neg hn)
    | _ => rfl
  | encIn =>
    cases r' with
    | encIn => contradiction
    | encFrame => exact absurd rfl (hprobe rfl)
    | _ => rfl
  | _ => cases r' <;> (try contradiction) <;> rfl

/-- Outside `STATUS` a write changes the host's registers only. -/
theorem writeReg_changes_only_regs {r : Reg} (h : r ≠ .status) (v : Word) (s : State) :
    writeReg r v s = { s with regs := (writeReg r v s).regs } := by
  rcases writeReg_cases r v s with heq | ⟨hstatus, -⟩ | ⟨g, heq⟩
  · rw [heq]
  · exact absurd hstatus h
  · rw [heq]; rfl

/-- A register that stores the low `k` bits reads the written word under the mask of those bits. -/
theorem setWidth_setWidth_eq_and_mask {k : Nat} (hk : k ≤ 32) (v : Word) :
    (v.setWidth k).setWidth 32 = v &&& BitVec.ofNat 32 (2 ^ k - 1) := by
  apply BitVec.eq_of_toNat_eq
  have hpow : 2 ^ k ≤ 2 ^ 32 := Nat.pow_le_pow_right (by decide) hk
  have hmask : (2 ^ k - 1) % 2 ^ 32 = 2 ^ k - 1 :=
    Nat.mod_eq_of_lt (by have := Nat.two_pow_pos k; omega)
  have hlow : v.toNat % 2 ^ k < 2 ^ 32 := (Nat.mod_lt _ (Nat.two_pow_pos k)).trans_le hpow
  rw [BitVec.toNat_setWidth, BitVec.toNat_setWidth, BitVec.toNat_and, BitVec.toNat_ofNat, hmask,
    Nat.and_two_pow_sub_one_eq_mod, Nat.mod_eq_of_lt hlow]

/-! ### `YAW_I_LIMIT` (R26, R113) -/

theorem readReg_writeReg_yawILimit (v : Word) (s : State) :
    readReg (writeReg .yawILimit v s) .yawILimit = v &&& 0x7FFFFFFF#32 :=
  setWidth_setWidth_eq_and_mask (k := 31) (by decide) v

/-- With bit 31 hardwired 0 the register reads, as a signed number, the limit of R113. -/
theorem s32_readReg_yawILimit (s : State) : s32 (readReg s .yawILimit) = integLimit s := by
  have hbit31 : s.regs.yawILimit.toNat < 2 ^ 31 := s.regs.yawILimit.isLt
  simp only [s32, readReg, integLimit, BitVec.toInt_eq_toNat_bmod, BitVec.toNat_setWidth]
  rw [Int.bmod_def]
  omega

/-- A limit of 0 clamps the integrator to 0. -/
theorem integNew_of_limit_zero {s : State} (h : integLimit s = 0) : integNew s = 0 := by
  have hbounds := clamp_bounds (x := (integAcc s).val) (lo := -integLimit s) (hi := integLimit s)
    (by omega)
  rw [integNew]
  omega

/-! ### The encoder probe (R37, R38) -/

theorem readReg_writeReg_encIn (v : Word) (s : State) :
    readReg (writeReg .encIn v s) .encIn = v &&& 0x7FF#32 :=
  setWidth_setWidth_eq_and_mask (k := 11) (by decide) v

/-- `ENC_FRAME` is a function of bits [10:0] of `ENC_IN`, in every state. -/
theorem readReg_encFrame (s : State) :
    readReg s .encFrame
      = (dshotFrame s.cfg.tlm ((readReg s .encIn).extractLsb' 0 11)).setWidth 32 := by
  have hlow : (s.regs.encIn.setWidth 32).extractLsb' 0 11 = s.regs.encIn := by
    rw [BitVec.extractLsb'_setWidth_of_le (by decide), BitVec.extractLsb'_eq_self]
  simp only [readReg, hlow]

/-- The frame of throttle 0 is its telemetry bit and that bit's checksum (R161 to R163). -/
theorem dshotFrame_zero (tlm : BitVec 1) :
    (dshotFrame tlm 0).setWidth 32 = if tlm = 0#1 then 0x0000#32 else 0x0011#32 := by
  revert tlm
  decide

/-! ### The parameter registers (R35, R36) -/

theorem dshotCfgWord_fields (c : Config) :
    (dshotCfgWord c).extractLsb' 0 16 = c.period ∧ (dshotCfgWord c).extractLsb' 16 7 = c.duty1
      ∧ (dshotCfgWord c).getLsbD 23 = false ∧ (dshotCfgWord c).extractLsb' 24 7 = c.duty0
      ∧ (dshotCfgWord c).extractLsb' 31 1 = c.tlm := by
  have habovePeriod (k len : Nat) (hk : 16 ≤ k) : (dshotCfgWord c).extractLsb' k len
      = (c.tlm ++ c.duty0 ++ 0#1 ++ c.duty1).extractLsb' (k - 16) len :=
    BitVec.extractLsb'_append_eq_of_le hk
  have haboveDuty1 (k len : Nat) (hk : 7 ≤ k) :
      (c.tlm ++ c.duty0 ++ 0#1 ++ c.duty1).extractLsb' k len
        = (c.tlm ++ c.duty0 ++ 0#1).extractLsb' (k - 7) len :=
    BitVec.extractLsb'_append_eq_of_le hk
  have hbit23 : (dshotCfgWord c).extractLsb' 23 1 = 0#1 := by
    rw [habovePeriod 23 1 (by decide), haboveDuty1 7 1 (by decide)]
    exact BitVec.extractLsb'_append_eq_right
  refine ⟨BitVec.extractLsb'_append_eq_right, ?_, ?_, ?_, ?_⟩
  · rw [habovePeriod 16 7 (by decide)]
    exact BitVec.extractLsb'_append_eq_right
  · simpa using congrArg (BitVec.getLsbD · 0) hbit23
  · rw [habovePeriod 24 7 (by decide), haboveDuty1 8 7 (by decide),
      BitVec.extractLsb'_append_eq_of_le (by decide)]
    exact BitVec.extractLsb'_append_eq_right
  · rw [habovePeriod 31 1 (by decide), haboveDuty1 15 1 (by decide),
      BitVec.extractLsb'_append_eq_of_le (by decide)]
    exact BitVec.extractLsb'_append_eq_left

/-- The compare values of a valid configuration fit their 16-bit fields. -/
theorem dshotCmpWord_fields {c : Config} (h : configValid c = true) :
    ((dshotCmpWord c).extractLsb' 0 16).toNat = compareZero c
      ∧ ((dshotCmpWord c).extractLsb' 16 16).toNat = compareOne c := by
  have hlow : (dshotCmpWord c).extractLsb' 0 16 = BitVec.ofNat 16 (compareZero c) :=
    BitVec.extractLsb'_append_eq_right
  have hhigh : (dshotCmpWord c).extractLsb' 16 16 = BitVec.ofNat 16 (compareOne c) :=
    BitVec.extractLsb'_append_eq_left
  rw [hlow, hhigh, BitVec.toNat_ofNat, BitVec.toNat_ofNat,
    Nat.mod_eq_of_lt (compareZero_lt_of_valid h), Nat.mod_eq_of_lt (compareOne_lt_of_valid h)]
  exact ⟨rfl, rfl⟩

/-! ### No step changes the build parameters (log 1) -/

@[simp] theorem transmit_cfg (s : State) : (transmit s).cfg = s.cfg := by
  rcases transmit_cases s with ⟨-, heq⟩ | ⟨-, -, heq⟩ | ⟨-, -, heq⟩
  · rw [heq]
  · rw [heq, raiseStartFailure_cfg]
  · rw [heq, sendFrames, State.setChan_cfg, State.loadBuffers_cfg]

@[simp] theorem writeReg_cfg (r : Reg) (v : Word) (s : State) : (writeReg r v s).cfg = s.cfg := by
  rcases writeReg_cases r v s with heq | ⟨-, heq⟩ | ⟨g, heq⟩ <;> simp [heq]

@[simp] theorem clockCycle_cfg (s : State) : (clockCycle s).cfg = s.cfg := by
  rcases clockCycle_cases s with ⟨-, heq⟩ | ⟨-, heq⟩ <;> simp [heq]

@[simp] theorem finishChannel_cfg (m : Motor) (s : State) : (finishChannel m s).cfg = s.cfg := by
  rcases finishChannel_cases m s with ⟨-, heq⟩ | ⟨-, heq⟩ <;> simp [heq]

@[simp] theorem resetLine_cfg (b : Bool) (s : State) : (resetLine b s).cfg = s.cfg := by
  rcases resetLine_cases b s with ⟨-, heq⟩ | ⟨-, -, heq⟩ <;> simp [heq]

@[simp] theorem pollStatus_cfg (rest : List HostOp) (s : State) :
    (pollStatus rest s).cfg = s.cfg := by
  rcases pollStatus_cases rest s with ⟨-, heq⟩ | ⟨-, heq⟩ <;> simp [heq]

theorem exec_keeps_cfg {i : Instr} {s t : State} (h : exec i s = .next t) : t.cfg = s.cfg := by
  rcases exec_cases h with ⟨-, rfl⟩ | ⟨-, _, _, rfl⟩ | ⟨-, _, _, rfl⟩ | ⟨-, rfl⟩ | ⟨-, rfl⟩ <;> simp

theorem busTransaction_keeps_cfg {x : Transaction} {s t : State}
    (h : busTransaction x s = .next t) : t.cfg = s.cfg := by
  rcases busTransaction_cases h with
    ⟨-, rfl⟩ | ⟨r, -, -, rfl⟩ | ⟨r, -, -, -, rfl⟩ | ⟨-, -, -, rfl⟩ | ⟨-, -, i, -, hexec⟩
  · exact raiseBusError_cfg _ _
  · exact regRead_cfg _ _
  · simp
  · simp
  · exact (exec_keeps_cfg hexec).trans (State.setResp_cfg s _)

theorem hostTurn_keeps_cfg {s t : State} (h : hostTurn s = .next t) : t.cfg = s.cfg := by
  rcases hostTurn_cases h with
    ⟨-, rfl⟩ | ⟨-, -, rfl⟩ | ⟨rest, -, -, rfl⟩ | ⟨x, rest, -, -, hbus⟩
  · rfl
  · exact State.setResp_cfg _ _
  · exact pollStatus_cfg _ _
  · exact (busTransaction_keeps_cfg hbus).trans (State.setProg_cfg s rest)

theorem step_keeps_cfg {s t : State} (h : step s = .next t) : t.cfg = s.cfg := by
  obtain ⟨-, hturn⟩ := step_cases h
  rcases hturn with ⟨-, rfl⟩ | ⟨q, -, rfl⟩ | ⟨m, q, -, rfl⟩ | ⟨b, q, -, rfl⟩ | ⟨q, -, hhost⟩
  · exact clockCycle_cfg s
  · exact clockCycle_cfg _
  · exact finishChannel_cfg m _
  · exact resetLine_cfg b _
  · exact (hostTurn_keeps_cfg hhost).trans (State.setSched_cfg s q)

end Sys2Proof.Machine

namespace Sys2Proof.Proofs

open Sys2Proof.Machine

/-- Settles O21: `YAW_I_LIMIT` stores 31 bits, and the limit 0 empties the integrator's clamp range. -/
theorem yawLimitBit31IsHardwired : Obligations.YawLimitBit31IsHardwired := by
  refine ⟨fun s v q p h => ?_, fun s => ?_, by decide, fun _ => rfl, fun s hzero => ?_⟩
  · refine ⟨_, step_registerWrite (r := .yawILimit) h (by decide) rfl,
      readReg_writeReg_yawILimit v _, fun r hr => ?_, writeReg_changes_only_regs (by decide) v _⟩
    rw [readReg_writeReg_of_ne hr nofun, readReg_answered]
  · rw [s32_readReg_yawILimit]
    exact Int.natCast_nonneg _
  · have hlimit : integLimit s = 0 := by rw [← s32_readReg_yawILimit, hzero]; rfl
    refine ⟨_, rfl, ?_⟩
    simp [integNew_of_limit_zero hlimit, u32]

/-- Settles O22: `ENC_IN` stores 11 bits, and `ENC_FRAME` is a function of what it reads. -/
theorem encoderProbe : Obligations.EncoderProbe := by
  refine ⟨fun s v q p h => ?_, readReg_encFrame, fun c => ⟨rfl, dshotFrame_zero c.tlm⟩⟩
  refine ⟨_, step_registerWrite (r := .encIn) h (by decide) rfl, readReg_writeReg_encIn v _,
    fun r hr hframe => ?_, writeReg_changes_only_regs (by decide) v _⟩
  rw [readReg_writeReg_of_ne hr fun _ => hframe, readReg_answered]

/-- Settles O24: both registers are functions of the build parameters, which every step keeps. -/
theorem parameterRegistersAreConstant : Obligations.ParameterRegistersAreConstant := by
  refine ⟨fun s => dshotCfgWord_fields s.cfg, fun s h => dshotCmpWord_fields h, fun s t h => ?_,
    by decide, by decide⟩
  have hcfg : t.cfg = s.cfg := step_keeps_cfg h
  exact ⟨hcfg, congrArg dshotCfgWord hcfg, congrArg dshotCmpWord hcfg⟩

end Sys2Proof.Proofs
end

section
/-! PROOFS. The command words (30_encoding.md): what a decoded word says about its fields (R80 to R83),
that `encode` is the one word of each command, the match and mask table of R82, and the host's write
of a word to `CMD` (R201). -/

namespace Sys2Proof

/-! ### The three fields of a word (R80) -/

/-- A word is its three fields. -/
theorem commandWord_fields (w : Word) : commandWord (rsvField w) (chField w) (opcField w) = w := by
  have hlow : chField w ++ opcField w = w.extractLsb' 0 6 :=
    BitVec.extractLsb'_append_extractLsb'_eq_extractLsb' rfl
  have hword : rsvField w ++ w.extractLsb' 0 6 = w := BitVec.extractLsb'_append_extractLsb'
  rw [← hlow] at hword
  exact (BitVec.append_assoc ..).trans hword

theorem commandWord_inj {rsv rsv' : BitVec 26} {ch ch' : BitVec 2} {opc opc' : BitVec 4} :
    commandWord rsv ch opc = commandWord rsv' ch' opc' ↔ rsv = rsv' ∧ ch = ch' ∧ opc = opc' := by
  refine ⟨fun h => ?_, fun ⟨hrsv, hch, hopc⟩ => by rw [hrsv, hch, hopc]⟩
  have hopc : opc = opc' := by
    simpa only [commandWord, BitVec.setWidth_append_eq_right] using congrArg (BitVec.setWidth 4) h
  subst hopc
  have hhigh : rsv ++ ch = rsv' ++ ch' := (BitVec.append_left_inj opc).1 h
  have hch : ch = ch' := by
    simpa only [BitVec.setWidth_append_eq_right] using congrArg (BitVec.setWidth 2) hhigh
  subst hch
  exact ⟨(BitVec.append_left_inj ch).1 hhigh, rfl, rfl⟩

/-- The fields of `w` are those of the command `i` (R80, R82). -/
def Instr.HasFields (i : Instr) (w : Word) : Prop :=
  opcField w = i.opc ∧ chField w = i.ch ∧ rsvField w = 0

/-- The encoding is the one word with its command's fields. -/
theorem hasFields_iff_encode_eq (i : Instr) (w : Word) : i.HasFields w ↔ encode i = w := by
  have hsplit : encode i = w ↔ 0 = rsvField w ∧ i.ch = chField w ∧ i.opc = opcField w := by
    rw [← commandWord_inj, commandWord_fields, encode]
  rw [hsplit, Instr.HasFields]
  tauto

/-- Only `SET_MOTOR` has a channel operand (R80). -/
theorem Instr.ch_eq_zero_or_opc_eq_three (i : Instr) : i.ch = 0 ∨ i.opc = 3 := by
  cases i with
  | setMotor m => exact Or.inr rfl
  | _ => exact Or.inl rfl

/-- Opcodes 8 to 15 are reserved (R82). -/
theorem Instr.opc_lt_eight (i : Instr) : i.opc.toNat < 8 := by
  cases i with
  | setMotor m => exact (by decide : (3#4).toNat < 8)
  | _ => decide

/-- Every value of the channel field is the channel of a `SET_MOTOR` (R81). -/
theorem Instr.ch_setMotor_ofNat (ch : BitVec 2) :
    (Instr.setMotor (Fin.ofNat 4 ch.toNat)).ch = ch := by
  revert ch
  decide

/-! ### What a decoded word says about its fields (R82, R83) -/

/-- The defect of `w` that the reason names. -/
def IllegalWord.AppliesTo (w : Word) : IllegalWord → Prop
  | .reservedBits => rsvField w ≠ 0
  | .reservedOpcode => 8 ≤ (opcField w).toNat
  | .channelNotZero => chField w ≠ 0 ∧ opcField w ≠ 3

/-- A command's fields are those of `w`; an illegal word's reason is a defect of `w`. -/
def Decoded.Describes (w : Word) : Decoded → Prop
  | .command i => i.HasFields w
  | .illegal why => why.AppliesTo w

theorem withoutChannel_describes {w : Word} {i : Instr} (hrsv : rsvField w = 0)
    (hopc : (opcField w).toNat = i.opc.toNat) (hch : i.ch = 0) (hne : i.opc ≠ 3) :
    (withoutChannel (chField w) i).Describes w := by
  have hopc' : opcField w = i.opc := BitVec.eq_of_toNat_eq hopc
  unfold withoutChannel
  split
  · next hzero => exact ⟨hopc', hzero.trans hch.symm, hrsv⟩
  · next hch' => exact ⟨hch', hopc' ▸ hne⟩

/-- What `decode` can answer, said once: its answer describes the word. -/
theorem decode_describes (w : Word) : (decode w).Describes w := by
  unfold decode
  split
  · next hrsv => exact hrsv
  · next hnot =>
    have hrsv : rsvField w = 0 := not_not.1 hnot
    split
    case h_4 hopc =>
      exact ⟨BitVec.eq_of_toNat_eq hopc, (Instr.ch_setMotor_ofNat (chField w)).symm, hrsv⟩
    case h_9 =>
      show 8 ≤ (opcField w).toNat
      simp only [imp_false] at *
      omega
    all_goals exact withoutChannel_describes hrsv ‹_› rfl (by decide)

theorem hasFields_of_decode {w : Word} {i : Instr} (h : decode w = .command i) : i.HasFields w := by
  have hdesc := decode_describes w
  rwa [h] at hdesc

theorem appliesTo_of_decode {w : Word} {why : IllegalWord} (h : decode w = .illegal why) :
    why.AppliesTo w := by
  have hdesc := decode_describes w
  rwa [h] at hdesc

/-- A word with a command's fields has none of the defects (R83). -/
theorem Instr.HasFields.not_appliesTo {i : Instr} {w : Word} (h : i.HasFields w)
    (why : IllegalWord) : ¬ why.AppliesTo w := by
  obtain ⟨hopc, hch, hrsv⟩ := h
  cases why with
  | reservedBits => exact not_not.2 hrsv
  | reservedOpcode =>
    have hlt : (opcField w).toNat < 8 := hopc ▸ i.opc_lt_eight
    exact hlt.not_ge
  | channelNotZero =>
    rintro ⟨hch', hopc'⟩
    rcases i.ch_eq_zero_or_opc_eq_three with hzero | hthree
    · exact hch' (hch.trans hzero)
    · exact hopc' (hopc.trans hthree)

theorem decode_encode (i : Instr) : decode (encode i) = .command i := by
  cases i with
  | setMotor m => revert m; decide
  | _ => decide

/-- A word decodes to a command exactly when it is the command's encoding (R80 to R83). -/
theorem decode_eq_command_iff (w : Word) (i : Instr) : decode w = .command i ↔ encode i = w :=
  ⟨fun h => (hasFields_iff_encode_eq i w).1 (hasFields_of_decode h), fun h => h ▸ decode_encode i⟩

/-- The decode is total (R100): a word is illegal exactly when it is no command's. -/
theorem decode_illegal_iff_not_command (w : Word) :
    (∃ why, decode w = .illegal why) ↔ ¬ ∃ i, decode w = .command i := by
  cases decode w with
  | command i => simp
  | illegal why => simp

/-- A word is illegal exactly when one of the defects applies to it (R83). -/
theorem decode_illegal_iff_appliesTo (w : Word) :
    (∃ why, decode w = .illegal why) ↔ ∃ why : IllegalWord, why.AppliesTo w := by
  refine ⟨fun ⟨why, h⟩ => ⟨why, appliesTo_of_decode h⟩, fun ⟨why, happ⟩ => ?_⟩
  rw [decode_illegal_iff_not_command]
  exact fun ⟨i, h⟩ => (hasFields_of_decode h).not_appliesTo why happ

/-! ### The rows of the table (R82) -/

/-- A row whose mask is all ones matches its command's encoding only. -/
theorem decode_eq_command_iff_fullMask (w : Word) (i : Instr) :
    decode w = .command i ↔ w &&& 0xFFFFFFFF#32 = encode i := by
  have hmask : w &&& 0xFFFFFFFF#32 = w := BitVec.and_allOnes
  rw [decode_eq_command_iff, hmask, eq_comm]

/-- The mask of the row `SET_MOTOR` clears the channel and keeps the other two fields. -/
theorem and_setMotorMask (w : Word) :
    w &&& 0xFFFFFFCF#32 = commandWord (rsvField w) 0#2 (opcField w) := by
  have hmask : 0xFFFFFFCF#32 = commandWord (BitVec.allOnes 26) 0#2 (BitVec.allOnes 4) := by decide
  calc w &&& 0xFFFFFFCF#32
      = commandWord (rsvField w) (chField w) (opcField w)
          &&& commandWord (BitVec.allOnes 26) 0#2 (BitVec.allOnes 4) := by
        rw [commandWord_fields, hmask]
    _ = commandWord (rsvField w) 0#2 (opcField w) := by
        rw [commandWord, commandWord, BitVec.and_append, BitVec.and_append, BitVec.and_allOnes,
          BitVec.and_allOnes, BitVec.and_zero, commandWord]

/-- The row `SET_MOTOR` matches the words with opcode 3 and no reserved bit, whatever their channel. -/
theorem decode_eq_setMotor_iff (w : Word) :
    (∃ m, decode w = .command (.setMotor m)) ↔ w &&& 0xFFFFFFCF#32 = 0x00000003#32 := by
  have hmatch : 0x00000003#32 = commandWord 0 0 3 := by decide
  rw [and_setMotorMask, hmatch, commandWord_inj]
  constructor
  · rintro ⟨m, h⟩
    obtain ⟨hopc, -, hrsv⟩ := hasFields_of_decode h
    exact ⟨hrsv, rfl, hopc⟩
  · rintro ⟨hrsv, -, hopc⟩
    have hfields : (Instr.setMotor (Fin.ofNat 4 (chField w).toNat)).HasFields w :=
      ⟨hopc, (Instr.ch_setMotor_ofNat (chField w)).symm, hrsv⟩
    exact ⟨_, (decode_eq_command_iff w _).2 ((hasFields_iff_encode_eq _ w).1 hfields)⟩

/-- The commands that have no channel operand. -/
def channelFreeCommands : List Instr :=
  [.nop, .ctrlStep, .setThrust, .zeroThrust, .update, .updateAll, .clrInteg]

theorem mem_channelFreeCommands_or_setMotor (i : Instr) :
    i ∈ channelFreeCommands ∨ ∃ m, i = .setMotor m := by
  cases i with
  | setMotor m => exact Or.inr ⟨m, rfl⟩
  | _ => exact Or.inl (by decide)

/-- Some command's words are the seven of the rows without a channel and those of `SET_MOTOR`. -/
theorem decode_command_iff_rows (w : Word) :
    (∃ i, decode w = .command i) ↔
      w ∈ channelFreeCommands.map encode ∨ ∃ m, decode w = .command (.setMotor m) := by
  simp only [List.mem_map, ← decode_eq_command_iff]
  constructor
  · rintro ⟨i, h⟩
    rcases mem_channelFreeCommands_or_setMotor i with hmem | ⟨m, rfl⟩
    · exact Or.inl ⟨i, hmem, h⟩
    · exact Or.inr ⟨m, h⟩
  · rintro (⟨i, -, h⟩ | ⟨m, h⟩)
    · exact ⟨i, h⟩
    · exact ⟨_, h⟩

/-- Every command with every channel, in the order of R82. -/
def allCommands : List Instr :=
  [.nop, .ctrlStep, .setThrust, .setMotor 0, .setMotor 1, .setMotor 2, .setMotor 3, .zeroThrust,
    .update, .updateAll, .clrInteg]

theorem mem_allCommands (i : Instr) : i ∈ allCommands := by
  cases i with
  | setMotor m => revert m; decide
  | _ => decide

/-- The legal words are the encodings of the commands. -/
theorem decode_command_iff_mem (w : Word) :
    (∃ i, decode w = .command i) ↔ w ∈ allCommands.map encode := by
  simp only [List.mem_map, mem_allCommands, true_and, decode_eq_command_iff]

end Sys2Proof

namespace Sys2Proof.Machine

/-! ### The host's write to `CMD` (R68, R100) -/

/-- The host's write of a word to `CMD` is answered without error and runs the command engine. -/
theorem step_commandWrite {w : Word} {q : List Turn} {p : List HostOp} {s : State}
    (h : transactionNext (commandTxn w) q p s) :
    step s = commandEngine w (answered s q p (.written false)) := by
  have htarget : legalTarget (commandTxn w) = some .cmd := legalTarget_at rfl rfl rfl
  rw [step_transaction h, busTransaction, htarget]
  exact if_pos rfl

/-- An illegal word does nothing but `set ILLEGAL` (R201). -/
theorem commandEngine_of_illegal {w : Word} {why : IllegalWord} (h : decode w = .illegal why)
    (s : State) : commandEngine w s = .next { s with illegal := true } := by
  rw [commandEngine, h, raiseIllegal]

end Sys2Proof.Machine

namespace Sys2Proof.Proofs

open Sys2Proof.Machine

/-- Settles O2: the encoding is its command's only word, so a full mask matches that word, and the mask
of `SET_MOTOR` leaves the channel free. -/
theorem decodeIsMatchAndMask : Obligations.DecodeIsMatchAndMask := by
  intro w
  refine ⟨decode_eq_command_iff_fullMask w .nop, decode_eq_command_iff_fullMask w .ctrlStep,
    decode_eq_command_iff_fullMask w .setThrust, decode_eq_setMotor_iff w,
    decode_eq_command_iff_fullMask w .zeroThrust, decode_eq_command_iff_fullMask w .update,
    decode_eq_command_iff_fullMask w .updateAll, decode_eq_command_iff_fullMask w .clrInteg, ?_⟩
  rw [decode_illegal_iff_not_command, decode_command_iff_rows, not_or, decode_eq_setMotor_iff]
  exact Iff.rfl

/-- Settles O3: an illegal word is one with a defect, a legal one is some command's encoding, and the
command engine answers the first with `set ILLEGAL`. -/
theorem illegalWordSetsOnlyIllegal : Obligations.IllegalWordSetsOnlyIllegal := by
  refine ⟨fun w => ?_, decode_command_iff_mem, fun s w why q p h hillegal => ?_⟩
  · rw [decode_illegal_iff_appliesTo]
    constructor
    · rintro ⟨why, happ⟩
      cases why with
      | reservedBits => exact Or.inr (Or.inl happ)
      | reservedOpcode => exact Or.inl happ
      | channelNotZero => exact Or.inr (Or.inr happ)
    · rintro (hopc | hrsv | hch)
      · exact ⟨.reservedOpcode, hopc⟩
      · exact ⟨.reservedBits, hrsv⟩
      · exact ⟨.channelNotZero, hch⟩
  · rw [step_commandWrite h, commandEngine_of_illegal hillegal]

end Sys2Proof.Proofs
end

section
/-! PROOFS. The command engine (40_command_engine.md): the words of a command without a channel operand,
channel by channel (R80, R83), and `NOP` (R101). -/

namespace Sys2Proof

/-! ### The words of one opcode (R80, R83) -/

/-- The three fields of a word put together from fields. -/
theorem fields_commandWord (rsv : BitVec 26) (ch : BitVec 2) (opc : BitVec 4) :
    rsvField (commandWord rsv ch opc) = rsv ∧ chField (commandWord rsv ch opc) = ch
      ∧ opcField (commandWord rsv ch opc) = opc :=
  commandWord_inj.1 (commandWord_fields _)

/-- With a channel-free command's opcode and no reserved bit, the channel alone decides (R83). -/
theorem decode_commandWord_channelFree {i : Instr} (hi : i ∈ channelFreeCommands) (ch : BitVec 2) :
    decode (commandWord 0 ch i.opc) = withoutChannel ch i := by
  obtain ⟨hrsv, hch, hopc⟩ := fields_commandWord 0 ch i.opc
  rw [decode, hrsv, hch, hopc, if_neg (not_not.2 rfl)]
  cases i with
  | setMotor m => simp [channelFreeCommands] at hi
  | _ => rfl

/-- A channel on a command without a channel operand makes the word illegal (R83). -/
theorem decode_illegal_of_spare_channel {i : Instr} (hi : i ∈ channelFreeCommands) {ch : BitVec 2}
    (hch : ch ≠ 0) : decode (commandWord 0 ch i.opc) = .illegal .channelNotZero := by
  rw [decode_commandWord_channelFree hi, withoutChannel, if_neg hch]

end Sys2Proof

namespace Sys2Proof.Machine

/-- `NOP` is `skip` (R101). -/
@[simp] theorem exec_nop (s : State) : exec .nop s = .next s := rfl

end Sys2Proof.Machine

namespace Sys2Proof.Proofs

open Sys2Proof.Machine

/-- Settles O38: 0 is the encoding of `NOP`, 0x10 is its opcode with channel 1, and `NOP` is `skip`. -/
theorem nopChangesNothing : Obligations.NopChangesNothing := by
  have hword : encode .nop = 0x00000000#32 := by decide
  have hspare : commandWord 0 1 Instr.nop.opc = 0x00000010#32 := by decide
  refine ⟨(decode_eq_command_iff _ _).2 hword, ?_, exec_nop⟩
  rw [← hspare]
  exact decode_illegal_of_spare_channel (by decide) (by decide)

end Sys2Proof.Proofs
end

section
/-! PROOFS. The control law (41_control_law.md): what `CTRL_STEP` reads and writes (R110, R118), the base
thrust (R115), and the mixer's sums (R116). -/

namespace Sys2Proof.Machine

/-! ### The saturating operations where nothing saturates (R13) -/

theorem qadd_in_range {a b : Int} (hlo : -2147483648 ≤ a + b) (hhi : a + b ≤ 2147483647) :
    qadd a b = ⟨a + b, false⟩ :=
  sat32_in_range hlo hhi

theorem qsub_in_range {a b : Int} (hlo : -2147483648 ≤ a - b) (hhi : a - b ≤ 2147483647) :
    qsub a b = ⟨a - b, false⟩ :=
  sat32_in_range hlo hhi

theorem qmul_in_range {a b : Int} (hlo : -2147483648 ≤ asr16 (a * b))
    (hhi : asr16 (a * b) ≤ 2147483647) : qmul a b = ⟨asr16 (a * b), false⟩ :=
  sat32_in_range hlo hhi

/-- A fraction of [0, 1.0] takes from a nonnegative length a part of it. -/
theorem asr16_fraction_mul_bounds {f d : Int} (hf0 : 0 ≤ f) (hf1 : f ≤ 65536) (hd : 0 ≤ d) :
    0 ≤ asr16 (f * d) ∧ asr16 (f * d) ≤ d := by
  have hlo : 0 ≤ f * d := mul_nonneg hf0 hd
  have hhi : f * d ≤ 65536 * d := mul_le_mul_of_nonneg_right hf1 hd
  unfold asr16
  omega

/-- The fraction 1.0 takes the whole. -/
theorem asr16_one_mul (d : Int) : asr16 (65536 * d) = d :=
  Int.mul_ediv_cancel_left d (by decide)

/-! ### The base thrust (R115) -/

theorem baseFraction_bounds (s : State) : 0 ≤ baseFraction s ∧ baseFraction s ≤ 65536 :=
  clamp_bounds (by decide)

theorem baseFraction_of_nonpos {s : State} (h : s32 s.regs.baseFrac ≤ 0) : baseFraction s = 0 := by
  rw [baseFraction, clamp, max_eq_right h]
  rfl

theorem baseFraction_of_one_le {s : State} (h : 65536 ≤ s32 s.regs.baseFrac) :
    baseFraction s = 65536 :=
  min_eq_right (h.trans (le_max_left _ 0))

theorem thrustSpan_of_ordered {s : State} (hord : s32 s.regs.thrustMin ≤ s32 s.regs.thrustMax)
    (hspan : s32 s.regs.thrustMax - s32 s.regs.thrustMin < 2 ^ 31) :
    thrustSpan s = ⟨s32 s.regs.thrustMax - s32 s.regs.thrustMin, false⟩ :=
  qsub_in_range (by omega) (by omega)

theorem thrustPart_bounds {s : State} (hord : s32 s.regs.thrustMin ≤ s32 s.regs.thrustMax) :
    0 ≤ asr16 (baseFraction s * (s32 s.regs.thrustMax - s32 s.regs.thrustMin))
      ∧ asr16 (baseFraction s * (s32 s.regs.thrustMax - s32 s.regs.thrustMin))
        ≤ s32 s.regs.thrustMax - s32 s.regs.thrustMin := by
  obtain ⟨hf0, hf1⟩ := baseFraction_bounds s
  exact asr16_fraction_mul_bounds hf0 hf1 (sub_nonneg.2 hord)

theorem thrustAbove_of_ordered {s : State} (hord : s32 s.regs.thrustMin ≤ s32 s.regs.thrustMax)
    (hspan : s32 s.regs.thrustMax - s32 s.regs.thrustMin < 2 ^ 31) :
    thrustAbove s
      = ⟨asr16 (baseFraction s * (s32 s.regs.thrustMax - s32 s.regs.thrustMin)), false⟩ := by
  obtain ⟨hpart0, hpart1⟩ := thrustPart_bounds hord
  rw [thrustAbove, thrustSpan_of_ordered hord hspan]
  dsimp only
  exact qmul_in_range (by omega) (by omega)

/-- With ordered bounds whose difference fits, no operation of R115 saturates: the base thrust lies the
clamped fraction of the way from `THRUST_MIN` to `THRUST_MAX`. -/
theorem baseThrust_of_ordered {s : State} (hord : s32 s.regs.thrustMin ≤ s32 s.regs.thrustMax)
    (hspan : s32 s.regs.thrustMax - s32 s.regs.thrustMin < 2 ^ 31) :
    baseThrust s = ⟨s32 s.regs.thrustMin
      + asr16 (baseFraction s * (s32 s.regs.thrustMax - s32 s.regs.thrustMin)), false⟩ := by
  obtain ⟨hpart0, hpart1⟩ := thrustPart_bounds hord
  have hmin := s32_bounds s.regs.thrustMin
  have hmax := s32_bounds s.regs.thrustMax
  rw [baseThrust, thrustAbove_of_ordered hord hspan]
  dsimp only
  exact qadd_in_range (by omega) (by omega)

/-! ### The mixer (R116): the rows of `mixMatrix` as signed sums -/

theorem motorSum_frontLeft (s : State) : motorSum s 0
    = (baseThrust s).val + (deltaRoll s).val + (deltaPitch s).val - (deltaYaw s).val := by
  simp only [motorSum, mixMatrix, Quad.get]
  ring

theorem motorSum_frontRight (s : State) : motorSum s 1
    = (baseThrust s).val - (deltaRoll s).val + (deltaPitch s).val + (deltaYaw s).val := by
  simp only [motorSum, mixMatrix, Quad.get]
  ring

theorem motorSum_rearRight (s : State) : motorSum s 2
    = (baseThrust s).val - (deltaRoll s).val - (deltaPitch s).val - (deltaYaw s).val := by
  simp only [motorSum, mixMatrix, Quad.get]
  ring

theorem motorSum_rearLeft (s : State) : motorSum s 3
    = (baseThrust s).val + (deltaRoll s).val - (deltaPitch s).val + (deltaYaw s).val := by
  simp only [motorSum, mixMatrix, Quad.get]
  ring

/-- Four terms of the signed 32-bit range, each with sign plus or minus, stay within 2^33. -/
theorem motorSum_bounds (s : State) (m : Motor) :
    -2 ^ 33 ≤ motorSum s m ∧ motorSum s m ≤ 2 ^ 33 := by
  have hbase : -2147483648 ≤ (baseThrust s).val ∧ (baseThrust s).val ≤ 2147483647 :=
    sat32_val_bounds _
  have hroll : -2147483648 ≤ (deltaRoll s).val ∧ (deltaRoll s).val ≤ 2147483647 :=
    sat32_val_bounds _
  have hpitch : -2147483648 ≤ (deltaPitch s).val ∧ (deltaPitch s).val ≤ 2147483647 :=
    sat32_val_bounds _
  have hyaw : -2147483648 ≤ (deltaYaw s).val ∧ (deltaYaw s).val ≤ 2147483647 :=
    sat32_val_bounds _
  match m with
  | 0 => rw [motorSum_frontLeft]; omega
  | 1 => rw [motorSum_frontRight]; omega
  | 2 => rw [motorSum_rearRight]; omega
  | 3 => rw [motorSum_rearLeft]; omega

/-! ### `CTRL_STEP` (R110) -/

/-- `satflag` is the disjunction over the operations of the step (R118). -/
theorem satFlag_eq_or (s : State) : satFlag s
    = ((errRoll s).sat || (errPitch s).sat || (errYaw s).sat || (propRoll s).sat || (derivRoll s).sat
      || (outRoll s).sat || (propPitch s).sat || (derivPitch s).sat || (outPitch s).sat
      || (integStep s).sat || (integAcc s).sat || (propYaw s).sat || (derivYaw s).sat
      || (pdYaw s).sat || (outYaw s).sat || (deltaRoll s).sat || (deltaPitch s).sat
      || (deltaYaw s).sat || (thrustSpan s).sat || (thrustAbove s).sat || (baseThrust s).sat) := by
  simp only [satFlag, satOps, List.any_cons, List.any_nil, Bool.or_false, Bool.or_assoc]

/-- `CTRL_STEP` is one write of five pieces of state. -/
theorem exec_ctrlStep (s : State) : exec .ctrlStep s = .next { s with
    yawInteg := u32 (integNew s)
    thrust := Quad.ofFn fun m => u32 (motorThrust s m)
    mclamp := Quad.ofFn fun m => decide (motorThrust s m ≠ motorSum s m)
    iclamp := decide (integNew s ≠ (integAcc s).val)
    sat := s.sat || satFlag s } := rfl

/-- The thrusts are a function of the host's registers and the integrator. -/
theorem motorThrust_congr {s t : State} (hregs : s.regs = t.regs)
    (hinteg : s.yawInteg = t.yawInteg) (m : Motor) : motorThrust s m = motorThrust t m := by
  simp only [motorThrust, motorSum, baseThrust, thrustAbove, thrustSpan, baseFraction, deltaRoll,
    deltaPitch, deltaYaw, outRoll, outPitch, outYaw, pdYaw, propRoll, propPitch, propYaw, derivRoll,
    derivPitch, derivYaw, integNew, integLimit, integAcc, integStep, errRoll, errPitch, errYaw,
    hregs, hinteg]

/-- A state with the registers of the example of R110. -/
def ctrlStepExample : State :=
  { State.reset with regs := { referenceRegs with
      spRoll := 0x00008000, estRoll := 0x00004000, estRollRate := 0x00002000 } }

theorem ctrlStepExample_thrust : (Quad.ofFn fun m => u32 (motorThrust ctrlStepExample m))
    = ⟨0x04434000#32, 0x03EBC000#32, 0x03EBC000#32, 0x04434000#32⟩ := by
  decide

end Sys2Proof.Machine

namespace Sys2Proof.Proofs

open Sys2Proof.Machine

/-- Settles O29: R110's pseudocode is the model's definitions unfolded, once each motor's sum is written
with its signs, the flag as a disjunction and the limit as the register's value; the example's thrusts
are those of one state with its registers. -/
theorem ctrlStepComputesControlLaw : Obligations.CtrlStepComputesControlLaw := by
  refine ⟨fun s hinteg hregs => ⟨_, exec_ctrlStep s, ?_⟩, fun s => ?_⟩
  · have hthrust : motorThrust s = motorThrust ctrlStepExample :=
      funext (motorThrust_congr hregs hinteg)
    rw [← ctrlStepExample_thrust, ← hthrust]
  · have hexec := exec_ctrlStep s
    simp only [Quad.ofFn, motorThrust, motorSum_frontLeft, motorSum_frontRight, motorSum_rearRight,
      motorSum_rearLeft, satFlag_eq_or] at hexec
    rw [s32_readReg_yawILimit]
    exact hexec

/-- Settles O33, from the closed form of the base thrust where nothing saturates. -/
theorem baseThrustBetweenBounds : Obligations.BaseThrustBetweenBounds := by
  refine fun s => ⟨rfl, fun hord hspan => ?_⟩
  obtain ⟨hpart0, hpart1⟩ := thrustPart_bounds hord
  rw [baseThrust_of_ordered hord hspan]
  refine ⟨le_add_of_nonneg_right hpart0, add_le_of_le_sub_left hpart1, fun hzero => ?_, fun hone => ?_⟩
  · rw [baseFraction_of_nonpos hzero, zero_mul]
    exact add_zero _
  · rw [baseFraction_of_one_le hone, asr16_one_mul]
    exact add_sub_cancel _ _

/-- Settles O34: the rows of the mixing matrix, and the range of its four saturated columns. -/
theorem mixerSumsAreExact : Obligations.MixerSumsAreExact := fun s =>
  ⟨⟨motorSum_frontLeft s, motorSum_frontRight s, motorSum_rearRight s, motorSum_rearLeft s⟩,
    motorSum_bounds s⟩

end Sys2Proof.Proofs
end

section
/-! PROOFS. ThrustCommand (42_thrust_command.md): what `SET_THRUST`, `SET_MOTOR` and `ZERO_THRUST` write
(R140 to R142), and what bounds a thrust after each of its writers (R143). -/

namespace Sys2Proof.Machine

/-! ### One staged value under the upper bound (R140, R141) -/

theorem stagedThrust_le_thrustMax (s : State) (m : Motor) :
    stagedThrust s m ≤ s32 s.regs.thrustMax :=
  min_le_right _ _

/-- The smaller of two words' integers fits a word, so publishing it loses nothing. -/
theorem s32_u32_stagedThrust (s : State) (m : Motor) :
    s32 (u32 (stagedThrust s m)) = stagedThrust s m := by
  obtain ⟨hstage, -⟩ := s32_bounds (s.regs.stage.get m)
  obtain ⟨hmax, hmax'⟩ := s32_bounds s.regs.thrustMax
  exact s32_u32 (le_min hstage hmax) ((stagedThrust_le_thrustMax s m).trans hmax')

/-- `MCLAMP[m]` is set exactly when the published word is not the staged one. -/
theorem stagedClamped_iff (s : State) (m : Motor) :
    stagedClamped s m = true ↔ u32 (stagedThrust s m) ≠ s.regs.stage.get m := by
  rw [stagedClamped, decide_eq_true_eq, ne_eq, ne_eq, not_iff_not]
  constructor
  · intro h
    rw [h, u32_s32]
  · intro h
    rw [← h, s32_u32_stagedThrust]

/-! ### The three commands (R140 to R142) -/

theorem exec_setThrust (s : State) : exec .setThrust s = .next (s.publish
    (Quad.ofFn fun m => u32 (stagedThrust s m)) (Quad.ofFn fun m => stagedClamped s m)) := rfl

theorem exec_setMotor (m : Motor) (s : State) : exec (.setMotor m) s = .next (s.publish
    (s.thrust.set m (u32 (stagedThrust s m))) (s.mclamp.set m (stagedClamped s m))) := rfl

theorem exec_zeroThrust (s : State) :
    exec .zeroThrust s = .next (s.publish (Quad.fill 0) (Quad.fill false)) := rfl

/-- `SET_THRUST` reads nothing that a publication writes, so a second one publishes the same. -/
theorem exec_setThrust_again {s t : State} (h : exec .setThrust s = .next t) :
    exec .setThrust t = .next t := by
  rw [exec_setThrust] at h
  injection h with h
  subst h
  rfl

/-- The tuple and the flags of the example of R140, in every state with its staged values and bound. -/
theorem setThrustExample {s : State}
    (hstage : s.regs.stage = ⟨0x00640000#32, 0x0BB80000#32, 0xFFFB0000#32, 0x07FF0000#32⟩)
    (hmax : s.regs.thrustMax = 0x07FF0000#32) :
    (Quad.ofFn fun m => u32 (stagedThrust s m))
        = ⟨0x00640000#32, 0x07FF0000#32, 0xFFFB0000#32, 0x07FF0000#32⟩
      ∧ (Quad.ofFn fun m => stagedClamped s m) = ⟨false, true, false, false⟩ := by
  simp only [stagedClamped, stagedThrust, hstage, hmax]
  decide

/-! ### The bounds (R143) -/

/-- The clamped sum lies between two words' integers, so it fits a word whatever the order of the
bounds. -/
theorem s32_u32_motorThrust (s : State) (m : Motor) :
    s32 (u32 (motorThrust s m)) = motorThrust s m := by
  obtain ⟨hmin, -⟩ := s32_bounds s.regs.thrustMin
  obtain ⟨hmax, hmax'⟩ := s32_bounds s.regs.thrustMax
  exact s32_u32 ((le_min hmin hmax).trans (clamp_ge_min _ _ _)) ((clamp_le _ _ _).trans hmax')

/-- With crossed bounds `CTRL_STEP` publishes the word of `THRUST_MAX`. -/
theorem u32_motorThrust_of_crossed {s : State} (h : s32 s.regs.thrustMax < s32 s.regs.thrustMin)
    (m : Motor) : u32 (motorThrust s m) = s.regs.thrustMax := by
  rw [motorThrust, clamp_of_crossed _ h, u32_s32]

@[simp] theorem writeReg_thrust (r : Reg) (v : Word) (s : State) :
    (writeReg r v s).thrust = s.thrust := by
  rcases writeReg_cases r v s with heq | ⟨-, heq⟩ | ⟨g, heq⟩ <;> simp [heq]

/-- The host's write to a register other than `CMD` publishes nothing. -/
theorem step_registerWrite_keeps_thrust {r : Reg} {v : Word} {q : List Turn} {p : List HostOp}
    {s t : State} (h : transactionNext (writeTxn (regOffset r) v) q p s) (hcmd : r ≠ .cmd)
    (hrw : readOnly r = false) (hstep : step s = .next t) : t.thrust = s.thrust := by
  rw [step_registerWrite h hcmd hrw] at hstep
  injection hstep with ht
  rw [← ht, writeReg_thrust]
  rfl

end Sys2Proof.Machine

namespace Sys2Proof.Proofs

open Sys2Proof.Machine

/-- Settles O41: 4 is the encoding of `ZERO_THRUST`, and publishing zeros changes nothing else. -/
theorem zeroThrustForcesZero : Obligations.ZeroThrustForcesZero := by
  have hword : encode .zeroThrust = 0x00000004#32 := by decide
  exact ⟨(decode_eq_command_iff _ _).2 hword, exec_zeroThrust⟩

/-- Settles O40: the four words are the encodings, and a publication with one channel set leaves the
other three. -/
theorem setMotorWritesOneMotor : Obligations.SetMotorWritesOneMotor := by
  refine ⟨by simp only [decode_eq_command_iff]; decide, fun s m => ?_⟩
  refine ⟨_, exec_setMotor m s, ?_, ?_, fun n hn => ?_, rfl⟩
  · rw [State.publish_thrust, Quad.get_set_same]
    exact s32_u32_stagedThrust s m
  · rw [State.publish_thrust, State.publish_mclamp, Quad.get_set_same, Quad.get_set_same]
    exact stagedClamped_iff s m
  · rw [State.publish_thrust, State.publish_mclamp, Quad.get_set, Quad.get_set, if_neg hn, if_neg hn]
    exact ⟨rfl, rfl⟩

/-- Settles O39: 2 is the encoding of `SET_THRUST`, each channel publishes its staged value under the
bound, and what a publication writes the command does not read. -/
theorem setThrustBoundsStagedTuple : Obligations.SetThrustBoundsStagedTuple := by
  have hword : encode .setThrust = 0x00000002#32 := by decide
  refine ⟨(decode_eq_command_iff _ _).2 hword, fun s => ?_, fun s hstage hmax => ?_⟩
  · refine ⟨_, exec_setThrust s, fun m => ?_, rfl, exec_setThrust_again (exec_setThrust s)⟩
    rw [State.publish_thrust, State.publish_mclamp, Quad.get_ofFn, Quad.get_ofFn]
    exact ⟨s32_u32_stagedThrust s m, stagedClamped_iff s m⟩
  · obtain ⟨hthrust, hmclamp⟩ := setThrustExample hstage hmax
    rw [exec_setThrust, hthrust, hmclamp]
    rfl

/-- Settles O30, writer by writer: `CTRL_STEP` clamps to both bounds, `SET_THRUST` and `SET_MOTOR` to the
upper one, `ZERO_THRUST` and reset give 0, a register write publishes nothing, and a throttle has 11
bits. -/
theorem thrustBoundsPerWriter : Obligations.ThrustBoundsPerWriter := by
  refine ⟨fun s m => ⟨_, exec_ctrlStep s, ?_⟩, fun s m => ⟨_, exec_setThrust s, ?_⟩,
    fun s m => ⟨_, exec_setMotor m s, ?_⟩, fun s m => ⟨_, exec_zeroThrust s, Quad.get_fill 0 m⟩,
    fun _ m => Quad.get_fill 0 m, ?_, fun x => ?_⟩
  · rw [Quad.get_ofFn, s32_u32_motorThrust]
    exact ⟨clamp_bounds, fun hcrossed => u32_motorThrust_of_crossed hcrossed m⟩
  · rw [State.publish_thrust, Quad.get_ofFn, s32_u32_stagedThrust]
    exact stagedThrust_le_thrustMax s m
  · rw [State.publish_thrust, Quad.get_set_same, s32_u32_stagedThrust]
    exact stagedThrust_le_thrustMax s m
  · rintro s t v q p (hmin | hmax) hstep
    · exact step_registerWrite_keeps_thrust (r := .thrustMin) hmin (by decide) rfl hstep
    · exact step_registerWrite_keeps_thrust (r := .thrustMax) hmax (by decide) rfl hstep
  · have hwidth : (throttle x).toNat < 2048 := (throttle x).isLt
    omega

end Sys2Proof.Proofs
end

section
/-! PROOFS. The DShot encoder (43_dshot_encoder.md): the throttle of a thrust (R160), the fields of a
frame (R161 to R163), the slots of its buffer (R165), and the one meaning of the two commands that
transmit (R168). -/

namespace Sys2Proof.Machine

/-! ### The throttle of a thrust (R160) -/

/-- With ordered bounds a value from the lower one down clamps to it. -/
theorem clamp_of_le_lo {x lo hi : Int} (hord : lo ≤ hi) (h : x ≤ lo) : clamp x lo hi = lo := by
  rw [clamp, max_eq_right h, min_eq_left hord]

/-- A value from the upper bound up clamps to it. -/
theorem clamp_of_hi_le {x lo hi : Int} (h : hi ≤ x) : clamp x lo hi = hi :=
  min_eq_right (h.trans (le_max_left x lo))

/-- The saturated integer part fits the 11 bits of a throttle. -/
theorem throttle_toNat (x : Word) : ((throttle x).toNat : Int) = clamp (s32 x / 2 ^ 16) 0 2047 := by
  have hbounds : 0 ≤ clamp (asr16 (s32 x)) 0 2047 ∧ clamp (asr16 (s32 x)) 0 2047 ≤ 2047 :=
    clamp_bounds (by decide)
  have hmod : clamp (asr16 (s32 x)) 0 2047 % 2048 = clamp (asr16 (s32 x)) 0 2047 :=
    Int.emod_eq_of_lt (by omega) (by omega)
  calc ((throttle x).toNat : Int)
      = clamp (asr16 (s32 x)) 0 2047 % 2048 := by
        rw [throttle, BitVec.toNat_ofInt, Int.toNat_of_nonneg (Int.emod_nonneg _ (by decide))]
        rfl
    _ = clamp (s32 x / 2 ^ 16) 0 2047 := hmod

theorem throttle_of_neg {x : Word} (h : s32 x < 0) : throttle x = 0 := by
  have hval := throttle_toNat x
  rw [clamp_of_le_lo (by decide) (by omega)] at hval
  exact BitVec.eq_of_toNat_eq (Int.ofNat_inj.1 hval)

theorem throttle_of_ge_max {x : Word} (h : 2047 * 2 ^ 16 ≤ s32 x) : throttle x = 2047 := by
  have hval := throttle_toNat x
  rw [clamp_of_hi_le (by omega)] at hval
  exact BitVec.eq_of_toNat_eq (Int.ofNat_inj.1 hval)

/-- Inside the range of the throttle nothing saturates. -/
theorem throttle_toNat_of_mem {x : Word} (hlo : 0 ≤ s32 x) (hhi : s32 x < 2047 * 2 ^ 16) :
    ((throttle x).toNat : Int) = s32 x / 2 ^ 16 := by
  rw [throttle_toNat, clamp_of_mem (by omega) (by omega)]

/-! ### The fields of a frame (R161 to R163) -/

/-- Bit 0 of the payload is the telemetry bit, the throttle stands above it. -/
theorem payload_fields (tlm : BitVec 1) (thr : Throttle) :
    (payload tlm thr).extractLsb' 1 11 = thr ∧ (payload tlm thr).extractLsb' 0 1 = tlm :=
  ⟨BitVec.extractLsb'_append_eq_left, BitVec.extractLsb'_append_eq_right⟩

/-- The low nibble of a frame is the checksum of its payload. -/
theorem dshotFrame_lowNibble (tlm : BitVec 1) (thr : Throttle) :
    (dshotFrame tlm thr).extractLsb' 0 4 = checksum (payload tlm thr) :=
  BitVec.extractLsb'_append_eq_right

/-- A field of a frame above the low nibble is a field of its payload. -/
theorem dshotFrame_extract_above (tlm : BitVec 1) (thr : Throttle) (k len : Nat) (hk : 4 ≤ k) :
    (dshotFrame tlm thr).extractLsb' k len = (payload tlm thr).extractLsb' (k - 4) len :=
  BitVec.extractLsb'_append_eq_of_le hk

/-- A receiver finds the checksum it computes from the payload it receives (R173). -/
theorem frameAccepted_dshotFrame (tlm : BitVec 1) (thr : Throttle) :
    frameAccepted (dshotFrame tlm thr) = true := by
  have hpayload : (dshotFrame tlm thr).extractLsb' 4 12 = payload tlm thr := by
    rw [dshotFrame_extract_above tlm thr 4 12 le_rfl]
    exact BitVec.extractLsb'_eq_self
  rw [frameAccepted, hpayload, decide_eq_true_eq]
  exact dshotFrame_lowNibble tlm thr

/-! ### The slots of a frame (R165) -/

theorem getElem_slots (c : Config) (fr : Frame) (i : SlotIx) :
    (slots c fr)[i] = slotValue c fr i.val := by
  simp [slots]

/-- In a valid configuration the compare value of a bit slot loses nothing in its 16 bits (R164). -/
theorem slotValue_toNat_of_valid {c : Config} (h : configValid c = true) (fr : Frame) {i : Nat}
    (hi : i < 16) :
    (slotValue c fr i).toNat = if fr.getLsbD (15 - i) then compareOne c else compareZero c := by
  rw [slotValue, if_pos hi]
  cases fr.getLsbD (15 - i) with
  | true => exact Nat.mod_eq_of_lt (compareOne_lt_of_valid h)
  | false => exact Nat.mod_eq_of_lt (compareZero_lt_of_valid h)

/-! ### The commands that transmit (R167, R168) -/

theorem exec_update (s : State) : exec .update s = .next (transmit s) := rfl

theorem exec_updateAll (s : State) : exec .updateAll s = .next (transmit s) := rfl

end Sys2Proof.Machine

namespace Sys2Proof.Proofs

open Sys2Proof.Machine

/-- Settles O42: the throttle is the clamped integer part, and a thrust lies below, above or inside the
range in which the clamp does nothing. -/
theorem throttleRoundsDownAndSaturates : Obligations.ThrottleRoundsDownAndSaturates := by
  refine ⟨throttle_toNat, fun _ => throttle_of_neg, fun _ => throttle_of_ge_max,
    fun x hlo hhi => ?_, by decide, by decide, by decide⟩
  have hval := throttle_toNat_of_mem hlo hhi
  omega

/-- Settles O46: a slot holds its compare value, which fits 16 bits in a valid configuration. -/
theorem slotsCarryFrameBits : Obligations.SlotsCarryFrameBits := by
  refine ⟨fun c fr i hvalid hi => ?_, fun c fr => getElem_slots c fr 16, by decide⟩
  rw [getElem_slots]
  exact slotValue_toNat_of_valid hvalid fr hi

/-- Settles O43: above its low nibble a frame is its payload, which is the throttle and the telemetry
bit; the low nibble is the payload's checksum. -/
theorem everyFrameValidates : Obligations.EveryFrameValidates := by
  refine ⟨fun tlm thr => ⟨frameAccepted_dshotFrame tlm thr, ?_⟩, by decide, by decide, by decide,
    by decide⟩
  obtain ⟨hthr, htlm⟩ := payload_fields tlm thr
  have habove := dshotFrame_extract_above tlm thr
  rw [habove 5 11 (by decide), habove 4 1 le_rfl, habove 12 4 (by decide), habove 8 4 (by decide),
    habove 4 4 le_rfl]
  exact ⟨hthr, htlm, dshotFrame_lowNibble tlm thr⟩

/-- Settles O50: 5 and 6 are the encodings of the two commands, and both are `transmit`. -/
theorem updateAllIsUpdate : Obligations.UpdateAllIsUpdate := by
  have hupdate : encode .update = 0x00000005#32 := by decide
  have hupdateAll : encode .updateAll = 0x00000006#32 := by decide
  refine ⟨(decode_eq_command_iff _ _).2 hupdate, (decode_eq_command_iff _ _).2 hupdateAll,
    fun s => ?_⟩
  rw [exec_updateAll, exec_update]

end Sys2Proof.Proofs
end

section
/-! PROOFS. The error events (60_exceptions.md): the register map read backwards (R22), the bus checks and
the bus error (R61 to R64, R203), and what clears the sticky bits of `STATUS` (R208). -/

namespace Sys2Proof.Machine

/-! ### The register map read backwards (R22) -/

theorem regOffset_of_lowRegAt {n : Nat} {r : Reg} (h : lowRegAt n = some r) :
    (regOffset r).toNat = n := by
  unfold lowRegAt at h
  split at h <;> cases h <;> rfl

/-- The register found at an offset stands at that offset. In each block of the map the index is the
distance from the block's base in words, so base and index give the offset again. -/
theorem regOffset_of_regAt {off : Offset} {r : Reg} (h : regAt off = some r) : regOffset r = off := by
  apply BitVec.eq_of_toNat_eq
  simp only [regAt, ite_eq_iff, Option.some.injEq, reduceCtorEq, and_false, false_or, or_false] at h
  obtain ⟨hword, ⟨-, hlow⟩ | ⟨hbase, hblock⟩⟩ := h
  · exact regOffset_of_lowRegAt hlow
  · rcases hblock with ⟨hend, rfl⟩ | ⟨hstage, ⟨hend, rfl⟩ | ⟨hcfg, ⟨hat, rfl⟩ | ⟨hcmp, ⟨hat, rfl⟩ |
      ⟨hencIn, ⟨hat, rfl⟩ | ⟨hencFrame, ⟨hat, rfl⟩ | ⟨hlastThr, ⟨hend, rfl⟩ |
      ⟨hlastFrame, ⟨hend, rfl⟩ | ⟨-, hslot, hend, hindex, rfl⟩⟩⟩⟩⟩⟩⟩⟩
    all_goals
      simp only [regOffset, Fin.ofNat, BitVec.toNat_ofNat, BitVec.reduceToNat]
      omega

/-- No register stands at a reserved offset. -/
theorem regOffset_not_reserved (r : Reg) : ¬ reservedOffset (regOffset r).toNat := by
  cases r with
  | thrust m => revert m; decide
  | stage m => revert m; decide
  | lastThr m => revert m; decide
  | lastFrame m => revert m; decide
  | slot m i => revert m i; decide
  | _ => decide

/-- A register at an offset that R64 lists is read-only. -/
theorem readOnly_of_readOnlyOffset {r : Reg} (h : readOnlyOffset (regOffset r).toNat) :
    readOnly r = true := by
  cases r with
  | thrust m => rfl
  | stage m => revert m; decide
  | lastThr m => rfl
  | lastFrame m => rfl
  | slot m i => rfl
  | _ => revert h; decide

theorem regOffset_mod_four (r : Reg) : (regOffset r).toNat % 4 = 0 := by
  have h := congrArg BitVec.toNat (regOffset_aligned r)
  simpa [BitVec.extractLsb'_toNat] using h

/-! ### The bus checks and the bus error (R61, R62, R64, R203) -/

/-- The transactions that R61, R62 and R64 reject. -/
abbrev RejectedByBus (x : Transaction) : Prop :=
  x.size ≠ 2#2 ∨ x.addr.toNat % 4 ≠ 0 ∨ reservedOffset x.addr.toNat
    ∨ (x.write = true ∧ readOnlyOffset x.addr.toNat)

/-- A rejected transaction addresses no register: a register it addressed would stand at its offset, and
would break the check that rejects it. -/
theorem legalTarget_of_rejected {x : Transaction} (h : RejectedByBus x) : legalTarget x = none := by
  refine Option.eq_none_iff_forall_ne_some.2 fun r htarget => ?_
  obtain ⟨hsize, -, hreg, hwritable⟩ := legalTarget_some htarget
  have haddr : regOffset r = x.addr := regOffset_of_regAt hreg
  rw [RejectedByBus, ← haddr] at h
  rcases h with hwidth | hmisaligned | hreserved | ⟨hwrite, hlisted⟩
  · exact hwidth hsize
  · exact hmisaligned (regOffset_mod_four r)
  · exact regOffset_not_reserved r hreserved
  · rw [hwrite, readOnly_of_readOnlyOffset hlisted] at hwritable
    cases hwritable

/-- A transaction that addresses no register is answered with a bus error, and that is all (R203). -/
theorem step_busError {x : Transaction} {q : List Turn} {p : List HostOp} {s : State}
    (h : transactionNext x q p s) (htarget : legalTarget x = none) :
    step s = .next (answered s q p (if x.write then .written true else .read 0 true)) := by
  rw [step_transaction h, busTransaction, htarget]
  rfl

/-! ### The sticky bits (R24, R208) -/

/-- Going from `s` to `t` clears none of the sticky bits `FAULT`, `SAT` and `ILLEGAL`. -/
structure KeepsSticky (s t : State) : Prop where
  fault : s.fault = true → t.fault = true
  sat : s.sat = true → t.sat = true
  illegal : s.illegal = true → t.illegal = true

theorem KeepsSticky.refl (s : State) : KeepsSticky s s := ⟨id, id, id⟩

theorem KeepsSticky.trans {s t u : State} (h : KeepsSticky s t) (h' : KeepsSticky t u) :
    KeepsSticky s u :=
  ⟨h'.fault ∘ h.fault, h'.sat ∘ h.sat, h'.illegal ∘ h.illegal⟩

theorem setResp_keepsSticky (s : State) (a : BusResponse) : KeepsSticky s (s.setResp a) :=
  ⟨id, id, id⟩

theorem setProg_keepsSticky (s : State) (p : List HostOp) : KeepsSticky s (s.setProg p) :=
  ⟨id, id, id⟩

theorem setSched_keepsSticky (s : State) (q : List Turn) : KeepsSticky s (s.setSched q) :=
  ⟨id, id, id⟩

theorem transmit_keepsSticky (s : State) : KeepsSticky s (transmit s) := by
  rcases transmit_cases s with ⟨-, heq⟩ | ⟨-, -, heq⟩ | ⟨-, -, heq⟩
  · rw [heq]; exact .refl s
  · rw [heq]; exact ⟨fun _ => rfl, id, id⟩
  · rw [heq]; exact ⟨id, id, id⟩

/-- No command clears a sticky bit: `CTRL_STEP` can only raise `SAT` (R118), `UPDATE` only `FAULT`
(R202). -/
theorem exec_keepsSticky {i : Instr} {s t : State} (h : exec i s = .next t) : KeepsSticky s t := by
  rcases exec_cases h with ⟨-, rfl⟩ | ⟨-, _, _, rfl⟩ | ⟨-, _, _, rfl⟩ | ⟨-, rfl⟩ | ⟨-, rfl⟩
  · exact .refl _
  · exact ⟨id, fun hsat => by simp [hsat], id⟩
  · exact ⟨id, id, id⟩
  · exact transmit_keepsSticky s
  · exact ⟨id, id, id⟩

/-- Outside `STATUS` a register write leaves the sticky bits. -/
theorem writeReg_keepsSticky {r : Reg} (h : r ≠ .status) (v : Word) (s : State) :
    KeepsSticky s (writeReg r v s) := by
  rw [writeReg_changes_only_regs h]
  exact ⟨id, id, id⟩

theorem clockCycle_keepsSticky (s : State) : KeepsSticky s (clockCycle s) := by
  rcases clockCycle_cases s with ⟨-, heq⟩ | ⟨-, heq⟩ <;> rw [heq] <;> exact ⟨id, id, id⟩

theorem finishChannel_keepsSticky (m : Motor) (s : State) : KeepsSticky s (finishChannel m s) := by
  rcases finishChannel_cases m s with ⟨-, heq⟩ | ⟨-, heq⟩ <;> rw [heq] <;> exact ⟨id, id, id⟩

theorem pollStatus_keepsSticky (rest : List HostOp) (s : State) :
    KeepsSticky s (pollStatus rest s) := by
  rcases pollStatus_cases rest s with ⟨-, heq⟩ | ⟨-, heq⟩ <;> rw [heq] <;> exact ⟨id, id, id⟩

/-- A legal write that addresses `STATUS` is the host's write to offset 0x004. -/
theorem eq_writeTxn_of_legalTarget_status {x : Transaction} (h : legalTarget x = some .status)
    (hw : x.write = true) : x = writeTxn 0x004 x.wdata := by
  obtain ⟨hsize, -, hreg, -⟩ := legalTarget_some h
  have haddr : regOffset .status = x.addr := regOffset_of_regAt hreg
  obtain ⟨write, addr, size, wdata⟩ := x
  subst hw hsize haddr
  rfl

/-- A transaction clears no sticky bit, unless it is a write to `STATUS`. -/
theorem busTransaction_keepsSticky {x : Transaction} {s t : State}
    (h : busTransaction x s = .next t) : KeepsSticky s t ∨ ∃ v, x = writeTxn 0x004 v := by
  rcases busTransaction_cases h with
    ⟨-, rfl⟩ | ⟨r, -, -, rfl⟩ | ⟨r, htarget, hwrite, -, rfl⟩ | ⟨-, -, -, rfl⟩ | ⟨-, -, i, -, hexec⟩
  · exact .inl ⟨id, id, id⟩
  · exact .inl ⟨id, id, id⟩
  · by_cases hr : r = .status
    · subst hr
      exact .inr ⟨_, eq_writeTxn_of_legalTarget_status htarget hwrite⟩
    · exact .inl ((setResp_keepsSticky s _).trans (writeReg_keepsSticky hr x.wdata _))
  · exact .inl ⟨id, id, fun _ => rfl⟩
  · exact .inl ((setResp_keepsSticky s _).trans (exec_keepsSticky hexec))

/-- The host's turn clears no sticky bit, unless it issues a write to `STATUS` with `rst` inactive. -/
theorem hostTurn_keepsSticky {s t : State} (h : hostTurn s = .next t) :
    KeepsSticky s t
      ∨ (s.rstActive = false ∧ ∃ v rest, s.prog = .txn (writeTxn 0x004 v) :: rest) := by
  rcases hostTurn_cases h with
    ⟨-, rfl⟩ | ⟨-, -, rfl⟩ | ⟨rest, -, -, rfl⟩ | ⟨x, rest, hprog, hrst, hbus⟩
  · exact .inl (.refl _)
  · exact .inl (setResp_keepsSticky s _)
  · exact .inl (pollStatus_keepsSticky rest s)
  · rcases busTransaction_keepsSticky hbus with hkeeps | ⟨v, rfl⟩
    · exact .inl ((setProg_keepsSticky s rest).trans hkeeps)
    · exact .inr ⟨hrst, v, rest, hprog⟩

/-- A step clears no sticky bit, unless it is reset or the host's write to `STATUS` (R208). -/
theorem step_keepsSticky {s t : State} (h : step s = .next t) :
    KeepsSticky s t ∨ resetNext s ∨ ∃ v q p, transactionNext (writeTxn 0x004 v) q p s := by
  obtain ⟨hvalid, hturn⟩ := step_cases h
  rcases hturn with
    ⟨-, rfl⟩ | ⟨q, -, rfl⟩ | ⟨m, q, -, rfl⟩ | ⟨b, q, hsched, rfl⟩ | ⟨q, hsched, hhost⟩
  · exact .inl (clockCycle_keepsSticky s)
  · exact .inl ((setSched_keepsSticky s q).trans (clockCycle_keepsSticky _))
  · exact .inl ((setSched_keepsSticky s q).trans (finishChannel_keepsSticky m _))
  · rcases resetLine_cases b (s.setSched q) with ⟨hreset, -⟩ | ⟨-, -, heq⟩
    · exact .inr (.inl ⟨b, q, hsched, hreset⟩)
    · rw [heq]
      exact .inl (setSched_keepsSticky s q)
  · rcases hostTurn_keepsSticky hhost with hkeeps | ⟨hrst, v, p, hprog⟩
    · exact .inl ((setSched_keepsSticky s q).trans hkeeps)
    · exact .inr (.inr ⟨v, q, p, hvalid, hrst, hsched, hprog⟩)

/-- The host's write to `STATUS` clears the sticky bits it names and changes nothing else (R24). -/
theorem step_statusWrite {v : Word} {q : List Turn} {p : List HostOp} {s : State}
    (h : transactionNext (writeTxn 0x004 v) q p s) :
    step s = .next { answered s q p (.written false) with
      sat := s.sat && !v.getLsbD 16, illegal := s.illegal && !v.getLsbD 17 } :=
  step_registerWrite (r := .status) h (by decide) rfl

/-- After a step that is not reset, the sticky bits are kept or the step was the host's write to `STATUS`,
which determines the three bits. -/
theorem step_sticky_cases {s t : State} (h : step s = .next t) :
    KeepsSticky s t ∨ resetNext s
      ∨ ∃ v q p, transactionNext (writeTxn 0x004 v) q p s ∧ t.fault = s.fault
        ∧ t.sat = (s.sat && !v.getLsbD 16) ∧ t.illegal = (s.illegal && !v.getLsbD 17) := by
  refine (step_keepsSticky h).imp_right (Or.imp_right ?_)
  rintro ⟨v, q, p, hnext⟩
  rw [step_statusWrite hnext] at h
  injection h with h
  subst h
  exact ⟨v, q, p, hnext, rfl, rfl, rfl⟩

end Sys2Proof.Machine

namespace Sys2Proof.Proofs

open Sys2Proof.Machine

/-- Settles O18: a rejected transaction addresses no register, and the step is then the bus error. -/
theorem busErrorChangesNothing : Obligations.BusErrorChangesNothing :=
  fun _ _ _ _ h hrejected => step_busError h (legalTarget_of_rejected hrejected)

/-- Settles O10: every step but reset and the write to `STATUS` keeps the three bits, and that write
clears only what it names. -/
theorem stickyBitsClearedOnlyAsStated : Obligations.StickyBitsClearedOnlyAsStated := by
  refine ⟨fun s t h hset hclear => ?_, fun s t h hset hclear => ?_, fun s t h hset hclear => ?_,
    fun s v q p h => step_statusWrite h⟩
  · rcases step_sticky_cases h with hkeeps | hreset | ⟨v, q, p, hnext, hfault, -, -⟩
    · simp [hkeeps.fault hset] at hclear
    · exact hreset
    · simp [hfault, hset] at hclear
  · rcases step_sticky_cases h with hkeeps | hreset | ⟨v, q, p, hnext, -, hsat, -⟩
    · simp [hkeeps.sat hset] at hclear
    · exact .inl hreset
    · exact .inr ⟨v, q, p, hnext, by simpa [hsat, hset] using hclear⟩
  · rcases step_sticky_cases h with hkeeps | hreset | ⟨v, q, p, hnext, -, -, hillegal⟩
    · simp [hkeeps.illegal hset] at hclear
    · exact .inl hreset
    · exact .inr ⟨v, q, p, hnext, by simpa [hillegal, hset] using hclear⟩

end Sys2Proof.Proofs
end

section
/-! PROOFS. What the scope, encoding and step statements still need: decoding and encoding agree (R80 to
R83), the ranges of a valid configuration (R5, R6), the saturating operations (R12, R13), how one turn
is the step (R7, R66), and that only a stopped `clk` stops it (R213). -/

namespace Sys2Proof.Machine

/-! ### The ranges of a valid configuration (R5, R6) -/

/-- A high time below the period is a duty below 100 percent. -/
theorem duty_lt_hundred {period duty : Nat} (h : period * duty / 100 < period) : duty < 100 := by
  have hmul : period * duty < period * 100 := (Nat.div_lt_iff_lt_mul (by decide)).1 h
  exact lt_of_mul_lt_mul_left hmul (Nat.zero_le _)

/-- Of two high times of one period, the longer has the greater duty. -/
theorem duty_lt_duty {period duty duty' : Nat} (h : period * duty / 100 < period * duty' / 100) :
    duty < duty' := by
  by_contra hle
  exact h.not_ge (Nat.div_le_div_right (Nat.mul_le_mul_left period (not_lt.1 hle)))

/-! ### The saturating operations (R12, R13) -/

/-- `sat32` is exact without the flag, or gives the nearer end of the range with it. -/
theorem sat32_cases (x : Int) :
    ((sat32 x).sat = false ∧ (sat32 x).val = x ∧ -2 ^ 31 ≤ x ∧ x < 2 ^ 31)
      ∨ ((sat32 x).sat = true ∧ x < -2 ^ 31 ∧ (sat32 x).val = -2 ^ 31)
      ∨ ((sat32 x).sat = true ∧ 2 ^ 31 ≤ x ∧ (sat32 x).val = 2 ^ 31 - 1) := by
  unfold sat32
  split
  · next hlow => exact .inr (.inl ⟨rfl, hlow, rfl⟩)
  · next hlow =>
    split
    · next hhigh => exact .inr (.inr ⟨rfl, Int.add_one_le_of_lt hhigh, rfl⟩)
    · next hhigh => exact .inl ⟨rfl, rfl, not_lt.1 hlow, Int.lt_add_one_of_le (not_lt.1 hhigh)⟩

/-! ### One turn of one agent is the step (R7) -/

theorem step_turn {u : Turn} {q : List Turn} {s : State} (hvalid : configValid s.cfg = true)
    (hsched : s.sched = u :: q) : step s = takeTurn u (s.setSched q) := by
  rw [step, machineStep, if_pos hvalid, hsched]

theorem step_unscheduled {s : State} (hvalid : configValid s.cfg = true) (hsched : s.sched = []) :
    step s = .next (clockCycle s) := by
  rw [step, machineStep, if_pos hvalid, hsched]

theorem commandEngine_of_command {w : Word} {i : Instr} (h : Sys2Proof.decode w = .command i)
    (s : State) : commandEngine w s = exec i s := by
  rw [commandEngine, h]

/-- The host's write of a command's word runs the command (R66, R100). -/
theorem step_command {w : Word} {i : Instr} {q : List Turn} {p : List HostOp} {s : State}
    (h : transactionNext (commandTxn w) q p s) (hdecode : Sys2Proof.decode w = .command i) :
    step s = exec i (answered s q p (.written false)) := by
  rw [step_commandWrite h, commandEngine_of_command hdecode]

/-- A word placed by `withFetchWord` is the host's next write to `CMD`. -/
theorem transactionNext_withFetchWord {s : State} (hvalid : configValid s.cfg = true) (n w : Nat) :
    transactionNext (commandTxn (BitVec.ofNat 32 (w % 2 ^ n))) s.sched s.prog
      (s.withFetchWord n w) :=
  ⟨hvalid, rfl, rfl, rfl⟩

theorem decode_of_decodeTableWord {n w : Nat} {i : Instr} (h : decodeTableWord n w = some i) :
    Sys2Proof.decode (BitVec.ofNat 32 (w % 2 ^ n)) = .command i := by
  rw [decodeTableWord] at h
  split at h
  · next hdecode => rw [hdecode, Option.some.inj h]
  · cases h

end Sys2Proof.Machine

namespace Sys2Proof.Proofs

open Sys2Proof.Machine

/-- Settles O1: what decodes to a command has that command's fields, and its encoding is the one word with
those fields. -/
theorem decodeEncodeAgree : Obligations.DecodeEncodeAgree :=
  decode_eq_command_iff

/-- Settles O4: each word is the encoding of its command, and 0x15 has a channel where `UPDATE` has
none. -/
theorem sampleWordsDecode : Obligations.SampleWordsDecode := by
  simp only [Obligations.SampleWordsDecode, decode_eq_command_iff]
  decide

/-- Settles O5: the host's turn with a write to `CMD` runs the command engine, which runs the decoded
command. -/
theorem stepRunsDecodedCommand : Obligations.StepRunsDecodedCommand := by
  refine ⟨fun s w i q p h hdecode => step_command h hdecode, fun s w i hvalid hword => ?_⟩
  exact step_command (transactionNext_withFetchWord hvalid 32 w) (decode_of_decodeTableWord hword)

/-- Settles O7: `0 < C0 < C1 < PERIOD` leaves room for no smaller period, and bounds the duties. -/
theorem validConfigurationInRange : Obligations.ValidConfigurationInRange := by
  intro c hvalid
  obtain ⟨hpos, hlt, hper⟩ := (configValid_iff c).1 hvalid
  have hduty1 : c.duty1.toNat < 100 := duty_lt_hundred hper
  have hduty0 : c.duty0.toNat < c.duty1.toNat := duty_lt_duty hlt
  have hwidth : c.period.toNat < 2 ^ 16 := c.period.isLt
  exact ⟨by omega, by omega, by omega, by omega, hduty0, compareOne_lt_of_valid hvalid⟩

/-- Settles O27: the three operations narrow an exact result by `sat32`, `qmul` after rounding its product
down. -/
theorem fixedPointIsExactOrSaturates : Obligations.FixedPointIsExactOrSaturates := by
  refine ⟨fun a b => sat32_cases (a + b), fun a b => sat32_cases (a - b), fun a b => ?_, by decide,
    by decide, by decide⟩
  have hround : 2 ^ 16 * asr16 (a * b) ≤ a * b ∧ a * b < 2 ^ 16 * (asr16 (a * b) + 1) := by
    unfold asr16
    omega
  rcases sat32_cases (asr16 (a * b)) with
    ⟨hflag, hval, hlo, hhi⟩ | ⟨hflag, hlo, hval⟩ | ⟨hflag, hhi, hval⟩
  · rw [qmul, hval]
    exact .inl ⟨hflag, hround.1, hround.2, hlo, hhi⟩
  · exact .inr (.inl ⟨hflag, by omega, hval⟩)
  · exact .inr (.inr ⟨hflag, by omega, hval⟩)

/-- Settles O53: a valid configuration's step faults on the end of `clk` and completes on every other
turn. -/
theorem onlyAStoppedClockStops : Obligations.OnlyAStoppedClockStops := by
  intro s hvalid
  rcases step_of_valid hvalid with ⟨hother, hnext⟩ | ⟨⟨q, hstop⟩, hfault⟩
  · exact ⟨fun ⟨q, hq⟩ => absurd hq (hother q), fun _ => hnext⟩
  · exact ⟨fun _ => hfault, fun hother => absurd hstop (hother q)⟩

end Sys2Proof.Proofs
end

section
/-! PROOFS. Who may change what (10_state.md sections 4 to 8, 43_dshot_encoder.md section 3): one inversion
of the step that names the agent and its effect on the block, what the step does to each piece of state,
and the invariant of DSQX. -/

namespace Sys2Proof.Machine

/-! ### What one step leaves (R7, R69) -/

/-- What a step leaves of the state `s`, by the agent that moved and what it did to the block. The turns and
operations still to come and the answer on the bus are outside the block, so they are not told apart. -/
inductive StepEffect (s : State) : State → Prop where
  /-- `rst` changes its level and the block is reset (R230, R231). -/
  | reset (b : Bool) (q : List Turn) (hsched : s.sched = .rst b :: q)
      (hlevel : b = true ∨ s.rstActive = true) : StepEffect s (resetState b (s.setSched q))
  /-- Nothing in the block changes. -/
  | silent (q : List Turn) (p : List HostOp) (a : BusResponse) : StepEffect s (answered s q p a)
  /-- A `clk` cycle with `TIMED` = true (R169). -/
  | tick (q : List Turn) (htimed : s.cfg.timed = true) :
      StepEffect s ((s.setSched q).setChan (s.chan.map (channelTick s.cfg)))
  /-- A free finish step with `TIMED` = false (R169). -/
  | finish (m : Motor) (q : List Turn) (huntimed : s.cfg.timed = false)
      (hsched : s.sched = .finish m :: q) :
      StepEffect s ((s.setSched q).setChan (s.chan.set m .idle))
  /-- The host's accepted write to a register other than `CMD` (R66). -/
  | registerWrite (r : Reg) (v : Word) (q : List Turn) (p : List HostOp)
      (hnext : transactionNext (writeTxn (regOffset r) v) q p s) (hcmd : r ≠ .cmd)
      (hrw : readOnly r = false) : StepEffect s (writeReg r v (answered s q p (.written false)))
  /-- The host's write of an illegal word to `CMD` (R201). -/
  | illegal (q : List Turn) (p : List HostOp) (hrst : s.rstActive = false) :
      StepEffect s (raiseIllegal (answered s q p (.written false)))
  /-- The host's write of a command's word to `CMD` (R100). -/
  | command (i : Instr) (q : List Turn) (p : List HostOp) (t : State) (hnext : commandNext i s)
      (hexec : exec i (answered s q p (.written false)) = .next t) : StepEffect s t

/-- A legal write that addresses a register is the host's write to that register's offset, and the register
is not read-only (R61, R64). -/
theorem eq_writeTxn_of_legalTarget {x : Transaction} {r : Reg} (h : legalTarget x = some r)
    (hw : x.write = true) : x = writeTxn (regOffset r) x.wdata ∧ readOnly r = false := by
  obtain ⟨hsize, -, hreg, hrw⟩ := legalTarget_some h
  have haddr : regOffset r = x.addr := regOffset_of_regAt hreg
  obtain ⟨write, addr, size, wdata⟩ := x
  subst hw hsize haddr
  exact ⟨rfl, by simpa using hrw⟩

theorem commandNext_of_transactionNext {w : Word} {i : Instr} {q : List Turn} {p : List HostOp}
    {s : State} (h : transactionNext (commandTxn w) q p s)
    (hdecode : Sys2Proof.decode w = .command i) : commandNext i s := by
  obtain ⟨-, hrst, hsched, hprog⟩ := h
  exact ⟨hrst, ⟨q, hsched⟩, w, p, hprog, hdecode⟩

/-- The effect of the host's turn with a transaction. -/
theorem StepEffect.of_transaction {x : Transaction} {q : List Turn} {p : List HostOp} {s t : State}
    (hnext : transactionNext x q p s)
    (h : busTransaction x ((s.setSched q).setProg p) = .next t) : StepEffect s t := by
  have hrst : s.rstActive = false := hnext.2.1
  rcases busTransaction_cases h with
    ⟨-, rfl⟩ | ⟨r, -, -, rfl⟩ | ⟨r, htarget, hw, hcmd, rfl⟩ | ⟨-, -, -, rfl⟩ |
      ⟨htarget, hw, i, hdecode, hexec⟩
  · exact .silent q p _
  · exact .silent q p _
  · obtain ⟨hx, hrw⟩ := eq_writeTxn_of_legalTarget htarget hw
    exact .registerWrite r x.wdata q p (hx ▸ hnext) hcmd hrw
  · exact .illegal q p hrst
  · obtain ⟨hx, -⟩ := eq_writeTxn_of_legalTarget htarget hw
    rw [hx] at hnext
    exact .command i q p t (commandNext_of_transactionNext hnext hdecode) hexec

/-- Every step that gives a next state has one of the effects. -/
theorem step_effect {s t : State} (h : step s = .next t) : StepEffect s t := by
  obtain ⟨hvalid, hturn⟩ := step_cases h
  rcases hturn with
    ⟨-, rfl⟩ | ⟨q, -, rfl⟩ | ⟨m, q, hsched, rfl⟩ | ⟨b, q, hsched, rfl⟩ | ⟨q, hsched, hhost⟩
  · rcases clockCycle_cases s with ⟨htimed, heq⟩ | ⟨-, heq⟩
    · rw [heq]; exact .tick s.sched htimed
    · rw [heq]; exact .silent s.sched s.prog s.resp
  · rcases clockCycle_cases (s.setSched q) with ⟨htimed, heq⟩ | ⟨-, heq⟩
    · rw [heq]; exact .tick q htimed
    · rw [heq]; exact .silent q s.prog s.resp
  · rcases finishChannel_cases m (s.setSched q) with ⟨-, heq⟩ | ⟨huntimed, heq⟩
    · rw [heq]; exact .silent q s.prog s.resp
    · rw [heq]; exact .finish m q huntimed hsched
  · rcases resetLine_cases b (s.setSched q) with ⟨hlevel, heq⟩ | ⟨-, -, heq⟩
    · rw [heq]; exact .reset b q hsched hlevel
    · rw [heq]; exact .silent q s.prog s.resp
  · rcases hostTurn_cases hhost with
      ⟨-, rfl⟩ | ⟨-, -, rfl⟩ | ⟨rest, -, -, rfl⟩ | ⟨x, rest, hprog, hrst, hbus⟩
    · exact .silent q s.prog s.resp
    · exact .silent q s.prog .stalled
    · rcases pollStatus_cases rest (s.setSched q) with ⟨-, heq⟩ | ⟨-, heq⟩
      · rw [heq]; exact .silent q rest _
      · rw [heq]; exact .silent q s.prog _
    · exact .of_transaction ⟨hvalid, hrst, hsched, hprog⟩ hbus

/-! ### What a register write leaves (R66) -/

section
variable (r : Reg) (v : Word) (s : State)

@[simp] theorem writeReg_yawInteg : (writeReg r v s).yawInteg = s.yawInteg := by
  rcases writeReg_cases r v s with heq | ⟨-, heq⟩ | ⟨g, heq⟩ <;> simp [heq]

@[simp] theorem writeReg_mclamp : (writeReg r v s).mclamp = s.mclamp := by
  rcases writeReg_cases r v s with heq | ⟨-, heq⟩ | ⟨g, heq⟩ <;> simp [heq]

@[simp] theorem writeReg_lastThr : (writeReg r v s).lastThr = s.lastThr := by
  rcases writeReg_cases r v s with heq | ⟨-, heq⟩ | ⟨g, heq⟩ <;> simp [heq]

@[simp] theorem writeReg_lastFrame : (writeReg r v s).lastFrame = s.lastFrame := by
  rcases writeReg_cases r v s with heq | ⟨-, heq⟩ | ⟨g, heq⟩ <;> simp [heq]

@[simp] theorem writeReg_slotBuf : (writeReg r v s).slotBuf = s.slotBuf := by
  rcases writeReg_cases r v s with heq | ⟨-, heq⟩ | ⟨g, heq⟩ <;> simp [heq]

@[simp] theorem writeReg_chan : (writeReg r v s).chan = s.chan := by
  rcases writeReg_cases r v s with heq | ⟨-, heq⟩ | ⟨g, heq⟩ <;> simp [heq]

@[simp] theorem writeReg_rstActive : (writeReg r v s).rstActive = s.rstActive := by
  rcases writeReg_cases r v s with heq | ⟨-, heq⟩ | ⟨g, heq⟩ <;> simp [heq]

end

/-! ### What a command leaves (R100) -/

/-- A command that transmits leaves all but `FAULT`, or finds `FAULT` = 0 and every channel idle and
starts the frames (R167, R172, R202). -/
theorem transmit_effect (s : State) :
    (∃ f, transmit s = { s with fault := f })
      ∨ (s.fault = false ∧ anyBusy s = false ∧ transmit s = sendFrames s) := by
  rcases transmit_cases s with ⟨-, heq⟩ | ⟨-, -, heq⟩ | hsend
  · exact .inl ⟨s.fault, heq⟩
  · exact .inl ⟨true, heq⟩
  · exact .inr hsend

section
variable (s : State)

@[simp] theorem transmit_rstActive : (transmit s).rstActive = s.rstActive := by
  rcases transmit_effect s with ⟨f, heq⟩ | ⟨-, -, heq⟩ <;> simp [heq, sendFrames]

@[simp] theorem transmit_regs : (transmit s).regs = s.regs := by
  rcases transmit_effect s with ⟨f, heq⟩ | ⟨-, -, heq⟩ <;> simp [heq, sendFrames]

@[simp] theorem transmit_yawInteg : (transmit s).yawInteg = s.yawInteg := by
  rcases transmit_effect s with ⟨f, heq⟩ | ⟨-, -, heq⟩ <;> simp [heq, sendFrames]

@[simp] theorem transmit_thrust : (transmit s).thrust = s.thrust := by
  rcases transmit_effect s with ⟨f, heq⟩ | ⟨-, -, heq⟩ <;> simp [heq, sendFrames]

@[simp] theorem transmit_mclamp : (transmit s).mclamp = s.mclamp := by
  rcases transmit_effect s with ⟨f, heq⟩ | ⟨-, -, heq⟩ <;> simp [heq, sendFrames]

end

theorem exec_keeps_rstActive {i : Instr} {s t : State} (h : exec i s = .next t) :
    t.rstActive = s.rstActive := by
  rcases exec_cases h with ⟨-, rfl⟩ | ⟨-, _, _, rfl⟩ | ⟨-, _, _, rfl⟩ | ⟨-, rfl⟩ | ⟨-, rfl⟩ <;> simp

/-- A command keeps the host's registers. -/
theorem exec_keeps_regs {i : Instr} {s t : State} (h : exec i s = .next t) : t.regs = s.regs := by
  rcases exec_cases h with ⟨-, rfl⟩ | ⟨-, _, _, rfl⟩ | ⟨-, _, _, rfl⟩ | ⟨-, rfl⟩ | ⟨-, rfl⟩ <;> simp

/-- What a command does to the integrator (R32). -/
theorem exec_yawInteg {i : Instr} {s t : State} (h : exec i s = .next t) :
    t.yawInteg = s.yawInteg ∨ (i = .ctrlStep ∧ t.yawInteg = u32 (integNew s))
      ∨ (i = .clrInteg ∧ t.yawInteg = 0) := by
  rcases exec_cases h with ⟨-, rfl⟩ | ⟨hi, _, _, rfl⟩ | ⟨-, _, _, rfl⟩ | ⟨-, rfl⟩ | ⟨hi, rfl⟩
  · exact .inl rfl
  · exact .inr (.inl ⟨hi, rfl⟩)
  · exact .inl rfl
  · exact .inl (transmit_yawInteg s)
  · exact .inr (.inr ⟨hi, rfl⟩)

/-- What a command does to ThrustCommand and `MCLAMP` (R33, R71). -/
theorem exec_thrust {i : Instr} {s t : State} (h : exec i s = .next t) :
    (t.thrust = s.thrust ∧ t.mclamp = s.mclamp)
      ∨ i = .ctrlStep ∨ i = .setThrust ∨ (∃ m, i = .setMotor m) ∨ i = .zeroThrust := by
  rcases exec_cases h with ⟨-, rfl⟩ | ⟨hi, -⟩ | ⟨hi, -⟩ | ⟨-, rfl⟩ | ⟨-, rfl⟩
  · exact .inl ⟨rfl, rfl⟩
  · exact .inr (.inl hi)
  · exact .inr (.inr hi)
  · exact .inl ⟨transmit_thrust s, transmit_mclamp s⟩
  · exact .inl ⟨rfl, rfl⟩

/-- What a command does to the buffers, the read-backs and the engines: nothing, or a successful start
(R167). -/
theorem exec_transmission {i : Instr} {s t : State} (h : exec i s = .next t) :
    (t.slotBuf = s.slotBuf ∧ t.lastThr = s.lastThr ∧ t.lastFrame = s.lastFrame ∧ t.chan = s.chan)
      ∨ ((i = .update ∨ i = .updateAll) ∧ s.fault = false ∧ anyBusy s = false
          ∧ t = sendFrames s) := by
  rcases exec_cases h with ⟨-, rfl⟩ | ⟨-, _, _, rfl⟩ | ⟨-, _, _, rfl⟩ | ⟨hi, rfl⟩ | ⟨-, rfl⟩
  · exact .inl ⟨rfl, rfl, rfl, rfl⟩
  · exact .inl ⟨rfl, rfl, rfl, rfl⟩
  · exact .inl ⟨rfl, rfl, rfl, rfl⟩
  · rcases transmit_effect s with ⟨f, heq⟩ | ⟨hfault, hbusy, heq⟩
    · rw [heq]; exact .inl ⟨rfl, rfl, rfl, rfl⟩
    · exact .inr ⟨hi, hfault, hbusy, heq⟩
  · exact .inl ⟨rfl, rfl, rfl, rfl⟩

/-! ### What a step does to each piece of state -/

/-- What a step does to the integrator (R32). -/
theorem step_yawInteg {s t : State} (h : step s = .next t) :
    t.yawInteg = s.yawInteg ∨ (commandNext .ctrlStep s ∧ ∃ u, t.yawInteg = u32 (integNew u))
      ∨ (commandNext .clrInteg s ∧ t.yawInteg = 0) ∨ (resetNext s ∧ t.yawInteg = 0) := by
  cases step_effect h with
  | reset b q hsched hlevel => exact .inr (.inr (.inr ⟨⟨b, q, hsched, hlevel⟩, rfl⟩))
  | command i q p t hnext hexec =>
    rcases exec_yawInteg hexec with heq | ⟨rfl, heq⟩ | ⟨rfl, heq⟩
    · exact .inl heq
    · exact .inr (.inl ⟨hnext, _, heq⟩)
    · exact .inr (.inr (.inl ⟨hnext, heq⟩))
  | registerWrite r v q p => exact .inl (writeReg_yawInteg r v _)
  | _ => exact .inl rfl

/-- What a step does to the engines: nothing, reset, a tick, a finish step, or a successful start. -/
theorem step_chan {s t : State} (h : step s = .next t) :
    t.chan = s.chan ∨ (resetNext s ∧ t.chan = Quad.fill .idle)
      ∨ (s.cfg.timed = true ∧ t.chan = s.chan.map (channelTick s.cfg))
      ∨ (s.cfg.timed = false ∧ ∃ m q, s.sched = .finish m :: q ∧ t.chan = s.chan.set m .idle)
      ∨ t.chan = Quad.fill startedChannel := by
  cases step_effect h with
  | reset b q hsched hlevel => exact .inr (.inl ⟨⟨b, q, hsched, hlevel⟩, rfl⟩)
  | tick q htimed => exact .inr (.inr (.inl ⟨htimed, rfl⟩))
  | finish m q huntimed hsched => exact .inr (.inr (.inr (.inl ⟨huntimed, m, q, hsched, rfl⟩)))
  | command i q p t hnext hexec =>
    rcases exec_transmission hexec with ⟨-, -, -, hchan⟩ | ⟨-, -, -, rfl⟩
    · exact .inl hchan
    · exact .inr (.inr (.inr (.inr rfl)))
  | registerWrite r v q p => exact .inl (writeReg_chan r v _)
  | _ => exact .inl rfl

/-! ### The clauses of the invariant -/

/-- A started buffer holds the frames of its throttles (R167). -/
theorem buffersCoherent_sendFrames (s : State) : buffersCoherent (sendFrames s) := ⟨rfl, rfl⟩

/-- R39 to R41, R165: the buffers are untouched since reset, with every channel idle, or coherent. -/
theorem step_keeps_buffers {s t : State} (h : step s = .next t)
    (hs : neverSent s ∨ buffersCoherent s) : neverSent t ∨ buffersCoherent t := by
  cases step_effect h with
  | reset b q => exact .inl ⟨rfl, rfl, rfl, rfl⟩
  | silent q p a => exact hs
  | tick q =>
    refine hs.imp_left fun ⟨hthr, hframe, hbuf, hchan⟩ => ⟨hthr, hframe, hbuf, ?_⟩
    rw [State.setChan_chan, hchan]
    rfl
  | finish m q =>
    refine hs.imp_left fun ⟨hthr, hframe, hbuf, hchan⟩ => ⟨hthr, hframe, hbuf, ?_⟩
    rw [State.setChan_chan, hchan]
    exact Quad.ext_get fun n => by simp [Quad.get_set]
  | registerWrite r v q p =>
    rw [neverSent, buffersCoherent, writeReg_lastThr, writeReg_lastFrame, writeReg_slotBuf,
      writeReg_chan, writeReg_cfg]
    exact hs
  | illegal q p => exact hs
  | command i q p t hnext hexec =>
    have hcfg : t.cfg = (answered s q p (.written false)).cfg := exec_keeps_cfg hexec
    rcases exec_transmission hexec with ⟨hbuf, hthr, hframe, hchan⟩ | ⟨-, -, -, rfl⟩
    · rw [neverSent, buffersCoherent, hbuf, hthr, hframe, hchan, hcfg]
      exact hs
    · exact .inr (buffersCoherent_sendFrames _)

/-- One tick stays in the range of ticks (R42). -/
theorem tickInRange_channelTick {c : Config} (hpos : 0 < c.period.toNat) (e : Channel) :
    tickInRange c (channelTick c e) = true := by
  cases e with
  | idle => rfl
  | playing i k =>
    rcases channelTick_cases c i k with ⟨hlt, heq⟩ | ⟨-, -, heq⟩ | ⟨-, -, heq⟩
    · rw [heq]; exact decide_eq_true hlt
    · rw [heq]; exact decide_eq_true hpos
    · rw [heq]; rfl

theorem period_pos_of_valid {c : Config} (h : configValid c = true) : 0 < c.period.toNat := by
  obtain ⟨-, -, hper⟩ := (configValid_iff c).1 h
  omega

theorem step_keeps_ticksInRange {s t : State} (h : step s = .next t)
    (hvalid : configValid s.cfg = true) (hs : ticksInRange s) : ticksInRange t := by
  have hpos : 0 < s.cfg.period.toNat := period_pos_of_valid hvalid
  intro m
  rw [step_keeps_cfg h]
  rcases step_chan h with hchan | ⟨-, hchan⟩ | ⟨-, hchan⟩ | ⟨-, n, q, -, hchan⟩ | hchan <;> rw [hchan]
  · exact hs m
  · rw [Quad.get_fill]; rfl
  · rw [Quad.get_map]; exact tickInRange_channelTick hpos _
  · rw [Quad.get_set]
    split
    · rfl
    · exact hs m
  · rw [Quad.get_fill]; exact decide_eq_true hpos

/-- R169: what happens to all engines with `TIMED` = true happens to each alike. -/
theorem step_keeps_lockStep {s t : State} (h : step s = .next t) (hs : lockStep s) : lockStep t := by
  intro htimed m
  rw [step_keeps_cfg h] at htimed
  rcases step_chan h with hchan | ⟨-, hchan⟩ | ⟨-, hchan⟩ | ⟨huntimed, -⟩ | hchan
  · rw [hchan]; exact hs htimed m
  · rw [hchan]; exact Quad.get_fill _ m
  · rw [hchan, Quad.get_map, hs htimed m]; rfl
  · rw [huntimed] at htimed; cases htimed
  · rw [hchan]; exact Quad.get_fill _ m

/-- The state outside the block plays no part in the reset state being held. -/
theorem resetHeld_answered {s : State} (hs : resetHeld s) (q : List Turn) (p : List HostOp)
    (a : BusResponse) : resetHeld (answered s q p a) := fun hactive =>
  congrArg (fun u => answered u q p .idle) (hs hactive)

/-- While `rst` is active every channel is idle (R230). -/
theorem chan_idle_of_resetHeld {s : State} (hs : resetHeld s) (hactive : s.rstActive = true) :
    s.chan = Quad.fill .idle :=
  congrArg State.chan (hs hactive)

/-- An engine's step that leaves an idle engine idle leaves the reset state held. -/
theorem resetHeld_setChan {s : State} (hs : resetHeld s) (q : List Turn) {c : Quad Channel}
    (hc : s.chan = Quad.fill .idle → c = Quad.fill .idle) :
    resetHeld ((s.setSched q).setChan c) := by
  intro hactive
  have hidle : s.chan = Quad.fill .idle := chan_idle_of_resetHeld hs hactive
  have hsame : c = s.chan := (hc hidle).trans hidle.symm
  subst hsame
  exact resetHeld_answered hs q s.prog s.resp hactive

theorem resetHeld_of_inactive {s : State} (h : s.rstActive = false) : resetHeld s := fun hactive => by
  rw [h] at hactive
  cases hactive

/-- R230: while `rst` is active the block stays in its reset state; no transaction is accepted then. -/
theorem step_keeps_resetHeld {s t : State} (h : step s = .next t) (hs : resetHeld s) :
    resetHeld t := by
  cases step_effect h with
  | reset b q =>
    intro hactive
    rw [resetState_rstActive] at hactive
    subst hactive
    rfl
  | silent q p a => exact resetHeld_answered hs q p a
  | tick q => exact resetHeld_setChan hs q fun hidle => by rw [hidle]; rfl
  | finish m q =>
    refine resetHeld_setChan hs q fun hidle => ?_
    rw [hidle]
    exact Quad.ext_get fun n => by simp [Quad.get_set]
  | registerWrite r v q p hnext =>
    obtain ⟨-, hrst, -, -⟩ := hnext
    exact resetHeld_of_inactive ((writeReg_rstActive r v _).trans hrst)
  | illegal q p hrst => exact resetHeld_of_inactive hrst
  | command i q p t hnext hexec =>
    obtain ⟨hrst, -, -⟩ := hnext
    exact resetHeld_of_inactive ((exec_keeps_rstActive hexec).trans hrst)

/-- R113: the clamped integrator lies within the limit. -/
theorem integNew_bounds (s : State) : -integLimit s ≤ integNew s ∧ integNew s ≤ integLimit s := by
  have hpos : 0 ≤ integLimit s := Int.natCast_nonneg _
  exact clamp_bounds (by omega)

/-- R26: the limit has 31 bits. -/
theorem integLimit_bounds (s : State) : 0 ≤ integLimit s ∧ integLimit s ≤ 2147483647 := by
  have hwidth : s.regs.yawILimit.toNat < 2 ^ 31 := s.regs.yawILimit.isLt
  unfold integLimit
  omega

/-- The clamped integrator fits a word, so writing it loses nothing. -/
theorem s32_u32_integNew (s : State) : s32 (u32 (integNew s)) = integNew s := by
  obtain ⟨hlo, hhi⟩ := integNew_bounds s
  obtain ⟨-, hlimit⟩ := integLimit_bounds s
  exact s32_u32 (by omega) (by omega)

/-- R26, R113: the integrator is never written below the negated greatest limit. -/
theorem step_keeps_integratorSymmetric {s t : State} (h : step s = .next t)
    (hs : integratorSymmetric s) : integratorSymmetric t := by
  rw [integratorSymmetric]
  rcases step_yawInteg h with heq | ⟨-, u, heq⟩ | ⟨-, heq⟩ | ⟨-, heq⟩ <;> rw [heq]
  · exact hs
  · obtain ⟨hlo, -⟩ := integNew_bounds u
    obtain ⟨-, hlimit⟩ := integLimit_bounds u
    rw [s32_u32_integNew]
    omega
  · decide
  · decide

theorem initial_idle (c : Config) (m : Motor) : (State.initial c).chan.get m = .idle :=
  Quad.get_fill _ m

/-- The reset state of a valid configuration has the invariant (R231). -/
theorem initial_inv {c : Config} (hvalid : configValid c = true) : (State.initial c).Inv := by
  refine ⟨hvalid, .inl ⟨rfl, rfl, rfl, rfl⟩, fun m => ?_, fun _ m => initial_idle c m,
    resetHeld_of_inactive rfl, ?_⟩
  · rw [initial_idle]; rfl
  · exact (by decide : -2147483647 ≤ s32 0)

end Sys2Proof.Machine

namespace Sys2Proof.Proofs

open Sys2Proof.Machine

/-- Settles O8, clause by clause of the invariant. -/
theorem stepKeepsInvariant : Obligations.StepKeepsInvariant := by
  rintro s t ⟨hvalid, hbuffers, hticks, hlock, hreset, hinteg⟩ h
  have hvalid' : configValid t.cfg = true := (step_keeps_cfg h).symm ▸ hvalid
  exact ⟨hvalid', step_keeps_buffers h hbuffers, step_keeps_ticksInRange h hvalid hticks,
    step_keeps_lockStep h hlock, step_keeps_resetHeld h hreset,
    step_keeps_integratorSymmetric h hinteg⟩

/-- Settles O9: nothing has been sent and every channel is idle. -/
theorem resetMeetsInvariant : Obligations.ResetMeetsInvariant :=
  ⟨fun _ => initial_inv, initial_inv (by decide)⟩

/-- Settles O11, from what a step does to the integrator. -/
theorem onlyTwoCommandsWriteIntegrator : Obligations.OnlyTwoCommandsWriteIntegrator := by
  intro s t h hchange
  rcases step_yawInteg h with heq | ⟨hnext, -⟩ | ⟨hnext, -⟩ | ⟨hreset, -⟩
  · exact absurd heq hchange
  · exact .inl hnext
  · exact .inr (.inl hnext)
  · exact .inr (.inr hreset)

/-- Settles O12: of the effects of a step only a command and reset reach ThrustCommand, and of the commands
only four. -/
theorem onlyFourCommandsWriteThrust : Obligations.OnlyFourCommandsWriteThrust := by
  intro s t h hchange
  cases step_effect h with
  | reset b q hsched hlevel => exact .inr (.inr (.inr (.inr ⟨b, q, hsched, hlevel⟩)))
  | command i q p t hnext hexec =>
    rcases exec_thrust hexec with ⟨hthrust, hmclamp⟩ | rfl | rfl | ⟨m, rfl⟩ | rfl
    · exact absurd hchange (not_or.2 ⟨not_not.2 hthrust, not_not.2 hmclamp⟩)
    · exact .inl hnext
    · exact .inr (.inl hnext)
    · exact .inr (.inr (.inl ⟨m, hnext⟩))
    · exact .inr (.inr (.inr (.inl hnext)))
  | registerWrite r v q p => simp [answered] at hchange
  | _ => exact absurd hchange (not_or.2 ⟨not_not.2 rfl, not_not.2 rfl⟩)

/-- Settles O13: of the effects of a step only a successful start and reset reach the buffers. -/
theorem buffersChangeOnlyWhileIdle : Obligations.BuffersChangeOnlyWhileIdle := by
  intro s t h hchange
  cases step_effect h with
  | reset b q hsched hlevel => exact .inr ⟨b, q, hsched, hlevel⟩
  | command i q p t hnext hexec =>
    rcases exec_transmission hexec with ⟨hbuf, hthr, hframe, -⟩ | ⟨hi, hfault, hbusy, -⟩
    · exact absurd hchange
        (not_or.2 ⟨not_not.2 hbuf, not_or.2 ⟨not_not.2 hthr, not_not.2 hframe⟩⟩)
    · have hidle : s.chan = Quad.fill .idle := chan_idle_of_not_anyBusy hbusy
      have hupdate : commandNext .update s ∨ commandNext .updateAll s := by
        rcases hi with rfl | rfl
        · exact .inl hnext
        · exact .inr hnext
      refine .inl ⟨hupdate, hfault, fun m => ?_⟩
      rw [hidle, Quad.get_fill]
  | registerWrite r v q p => simp [answered] at hchange
  | _ => simp [answered] at hchange

/-- Settles O14: of the effects of a step only a register write and reset reach the host's registers. -/
theorem onlyHostWritesItsRegisters : Obligations.OnlyHostWritesItsRegisters := by
  intro s t h hchange
  cases step_effect h with
  | reset b q hsched hlevel => exact .inr ⟨b, q, hsched, hlevel⟩
  | registerWrite r v q p hnext hcmd hrw =>
    exact .inl ⟨_, q, p, r, hnext, rfl, rfl, rfl, hrw, hcmd⟩
  | command i q p t hnext hexec => exact absurd (exec_keeps_regs hexec) hchange
  | _ => exact absurd rfl hchange

/-- Settles O15, from what a step does to the engines: a tick ends a frame only at the last tick of slot 16,
and a start leaves every engine busy. -/
theorem framesAreNeverCutShort : Obligations.FramesAreNeverCutShort := by
  intro s t m i k h hplaying hidle
  rcases step_chan h with
    hchan | ⟨hreset, -⟩ | ⟨htimed, hchan⟩ | ⟨huntimed, n, q, hsched, hchan⟩ | hchan
  · rw [hchan, hplaying] at hidle
    cases hidle
  · exact .inr (.inr hreset)
  · rw [hchan, Quad.get_map, hplaying] at hidle
    rcases channelTick_cases s.cfg i k with ⟨-, heq⟩ | ⟨-, -, heq⟩ | ⟨hlast, hslot, -⟩
    · rw [heq] at hidle; cases hidle
    · rw [heq] at hidle; cases hidle
    · exact .inl ⟨htimed, hslot, hlast⟩
  · rw [hchan, Quad.get_set] at hidle
    by_cases hm : m = n
    · subst hm
      exact .inr (.inl ⟨huntimed, q, hsched⟩)
    · rw [if_neg hm, hplaying] at hidle
      cases hidle
  · rw [hchan, Quad.get_fill] at hidle
    cases hidle

/-- Settles O16: the two turns of the engines, and the three cases of a tick. -/
theorem enginesWriteOnlyTheirState : Obligations.EnginesWriteOnlyTheirState := by
  refine ⟨fun s q hvalid htimed hsched => ?_, fun s hvalid htimed hsched => ?_,
    fun s m q hvalid huntimed hsched => ?_, fun c i k hk => ?_, fun c i j k hk hj => ?_,
    fun c k hk => ?_, channelTick_idle⟩
  · rw [step_turn hvalid hsched, takeTurn, clockCycle, State.setSched_cfg, if_pos htimed]
    rfl
  · rw [step_unscheduled hvalid hsched, clockCycle, if_pos htimed]
    rfl
  · rw [step_turn hvalid hsched, takeTurn, finishChannel, State.setSched_cfg, huntimed]
    rfl
  · exact if_pos hk
  · rcases channelTick_cases c i k with ⟨hlt, -⟩ | ⟨-, -, heq⟩ | ⟨-, hlast, -⟩
    · omega
    · have hj' : Fin.ofNat 17 (i.val + 1) = j := by rw [← hj]; exact Fin.ofNat_val_eq_self j
      rw [heq, hj']
    · omega
  · exact if_neg (not_lt.2 hk)

end Sys2Proof.Proofs
end

section
/-! PROOFS. The bus and the registers (20_memory.md, 10_state.md): a legal read (R65), the register map
(R22), plain registers (R66), the fields of `STATUS` (R24), and reset (R230, R231). -/

namespace Sys2Proof.Machine

/-! ### A legal read (R65) -/

/-- The host's 32-bit read at a register's offset answers what the register read before. -/
theorem step_registerRead {x : Transaction} {r : Reg} {q : List Turn} {p : List HostOp} {s : State}
    (h : transactionNext x q p s) (hread : x.write = false) (hsize : x.size = 2#2)
    (haddr : x.addr = regOffset r) :
    step s = .next (answered s q p (.read (readReg s r) false)) := by
  have htarget : legalTarget x = some r := legalTarget_at hsize haddr (by rw [hread, Bool.false_and])
  have hvalue : readReg ((s.setSched q).setProg p) r = readReg s r := readReg_answered s q p s.resp r
  rw [step_transaction h, busTransaction, htarget, hread]
  exact congrArg (fun v => Host.Outcome.next (answered s q p (.read v false))) hvalue

/-! ### The holes of the register map (R22) -/

/-- Below 0x080 the aligned offsets without a register are reserved. -/
theorem reservedOffset_of_lowRegAt_none {n : Nat} (hlow : n < 0x080) (haligned : n % 4 = 0)
    (h : lowRegAt n = none) : reservedOffset n := by
  have hword : ∀ k < 0x020, lowRegAt (4 * k) = none → reservedOffset (4 * k) := by decide
  have hn : 4 * (n / 4) = n := by omega
  exact hn ▸ hword (n / 4) (by omega) (hn.symm ▸ h)

/-- An aligned offset without a register is reserved. Above 0x080 the branches of the map that find none
are the ranges that R22 lists. -/
theorem reservedOffset_of_regAt_none {off : Offset} (haligned : off.toNat % 4 = 0)
    (h : regAt off = none) : reservedOffset off.toNat := by
  have hwidth : off.toNat < 0x400 := off.isLt
  simp only [regAt, ite_eq_iff, reduceCtorEq, and_false, false_or, and_true] at h
  rcases h with hmisaligned | ⟨-, ⟨hlow, hnone⟩ |
    ⟨-, -, -, -, -, -, -, -, hframe, hgap | ⟨hbank, ⟨hend, hhole⟩ | htop⟩⟩⟩
  · exact absurd haligned hmisaligned
  · exact reservedOffset_of_lowRegAt_none hlow haligned hnone
  · exact .inr (.inr (.inr (.inl (by omega))))
  · refine .inr (.inr (.inr (.inr (.inl ⟨⟨(off.toNat - 0x100) / 0x80, by omega⟩, ?_⟩))))
    dsimp only
    omega
  · exact .inr (.inr (.inr (.inr (.inr (by omega)))))

/-! ### Plain registers (R66) -/

theorem readReg_writeReg_same {r : Reg} (h : plainRegister r = true) (v : Word) (s : State) :
    readReg (writeReg r v s) r = v := by
  cases r
  case stage m => exact Quad.get_set_same s.regs.stage m v
  any_goals rfl
  all_goals cases h

theorem readOnly_of_plain {r : Reg} (h : plainRegister r = true) : readOnly r = false := by
  cases r
  any_goals rfl
  all_goals cases h

/-! ### The fields of `STATUS` (R24) -/

/-- Channel `m` stands in bit `m` of a nibble. -/
theorem getLsbD_nibble (f : Quad Bool) (m : Motor) : f.nibble.getLsbD m.val = f.get m := by
  obtain ⟨a, b, c, d⟩ := f
  revert a b c d m
  decide

theorem statusWord_getLsbD_busy (s : State) (m : Motor) :
    (statusWord s).getLsbD m.val = (s.chan.get m).busy := by
  have hm : m.val < 4 := m.isLt
  simp only [statusWord, BitVec.getLsbD_append]
  rw [if_pos hm, getLsbD_nibble, busyFlags, Quad.get_map]

theorem statusWord_getLsbD_mclamp (s : State) (m : Motor) :
    (statusWord s).getLsbD (4 + m.val) = s.mclamp.get m := by
  simp only [statusWord, BitVec.getLsbD_append]
  rw [if_neg (by omega), if_pos (by omega), Nat.add_sub_cancel_left, getLsbD_nibble]

theorem statusWord_flags (s : State) :
    (statusWord s).getLsbD 8 = s.iclamp ∧ (statusWord s).getLsbD 16 = s.sat
      ∧ (statusWord s).getLsbD 17 = s.illegal ∧ (statusWord s).getLsbD 24 = s.fault := by
  simp only [statusWord, BitVec.getLsbD_append]
  simp

/-- The bits outside the fields read 0. -/
theorem statusWord_and_reserved (s : State) : statusWord s &&& 0xFEFCFE00#32 = 0 := by
  have hmask : 0xFEFCFE00#32 = BitVec.allOnes 7 ++ 0#1 ++ BitVec.allOnes 6 ++ 0#1 ++ 0#1
      ++ BitVec.allOnes 7 ++ 0#1 ++ 0#4 ++ 0#4 := by decide
  rw [hmask, statusWord]
  rw [BitVec.and_append, BitVec.and_append, BitVec.and_append, BitVec.and_append, BitVec.and_append,
    BitVec.and_append, BitVec.and_append, BitVec.and_append]
  simp only [BitVec.and_zero, BitVec.zero_and]
  decide

/-- `SAT` and `ILLEGAL` show in bits 16 and 17 only. -/
theorem statusWord_getLsbD_other (s : State) (a b : Bool) {i : Nat} (hsat : i ≠ 16)
    (hillegal : i ≠ 17) :
    (statusWord { s with sat := a, illegal := b }).getLsbD i = (statusWord s).getLsbD i := by
  simp only [statusWord, busyFlags, BitVec.getLsbD_append]
  split_ifs
  any_goals rfl
  all_goals omega

/-- The bits of `STATUS` that a write can clear. -/
theorem clearMask_getLsbD : ∀ i < 32,
    (0x00030000#32).getLsbD i = (decide (i = 16) || decide (i = 17)) := by decide

/-- A write to `STATUS` clears the word's bits 16 and 17 where the written bits are 1. -/
theorem statusWord_clearSticky (s : State) (v : Word) :
    statusWord (s.clearSticky v) = statusWord s &&& ~~~(v &&& 0x00030000#32) := by
  apply BitVec.eq_of_getLsbD_eq
  intro i hi
  obtain ⟨-, hsat, hillegal, -⟩ := statusWord_flags s
  obtain ⟨-, hsat', hillegal', -⟩ := statusWord_flags (s.clearSticky v)
  rw [BitVec.getLsbD_and, BitVec.getLsbD_not, BitVec.getLsbD_and, clearMask_getLsbD i hi,
    decide_eq_true hi, Bool.true_and]
  by_cases h16 : i = 16
  · subst h16
    rw [hsat', hsat]
    simp [satAfterClear]
  by_cases h17 : i = 17
  · subst h17
    rw [hillegal', hillegal]
    simp [illegalAfterClear]
  · rw [State.clearSticky, statusWord_getLsbD_other s _ _ h16 h17]
    simp [h16, h17]
/-! ### Reset (R230, R231) -/

/-- An idle channel's output is low (R43). -/
theorem dshotOut_of_idle {s : State} {m : Motor} (h : s.chan.get m = .idle) :
    dshotOut s m = some false := by
  rw [dshotOut, h]

/-- While `rst` is active the host's operation is stalled, whatever it is (R230). -/
theorem hostTurn_while_reset {s : State} {x : HostOp} {p : List HostOp} (hrst : s.rstActive = true)
    (hprog : s.prog = x :: p) : hostTurn s = .next (s.setResp .stalled) := by
  cases x <;> rw [hostTurn, hprog] <;> exact if_pos hrst

end Sys2Proof.Machine

namespace Sys2Proof.Proofs

open Sys2Proof.Machine

/-- Settles O17: a read at a register's offset addresses that register. -/
theorem legalReadChangesNothing : Obligations.LegalReadChangesNothing :=
  fun _ _ _ _ _ h hread hsize haddr => ⟨step_registerRead h hread hsize haddr, rfl⟩

/-- Settles O19: the map and the offsets are inverse to each other, and the branches of the map without a
register are the reserved ranges. -/
theorem registerMapIsExact : Obligations.RegisterMapIsExact := by
  refine ⟨regAt_regOffset, fun _ _ => regOffset_of_regAt, fun off haligned =>
    ⟨reservedOffset_of_regAt_none haligned, fun hreserved => ?_⟩⟩
  refine Option.eq_none_iff_forall_ne_some.2 fun r hr => regOffset_not_reserved r ?_
  rwa [regOffset_of_regAt hr]

/-- Settles O20: a plain register stores the whole word, and no two registers share what they read. -/
theorem plainWriteReadsBack : Obligations.PlainWriteReadsBack := by
  intro s r v q p h hplain
  have hcmd : r ≠ .cmd := by rintro rfl; cases hplain
  have hstatus : r ≠ .status := by rintro rfl; cases hplain
  have hprobe : r ≠ .encIn := by rintro rfl; cases hplain
  have hrw : readOnly r = false := readOnly_of_plain hplain
  refine ⟨_, step_registerWrite h hcmd hrw, readReg_writeReg_same hplain v _, fun r' hr' => ?_,
    writeReg_changes_only_regs hstatus v _⟩
  rw [readReg_writeReg_of_ne hr' fun hr => absurd hr hprobe, readReg_answered]

/-- Settles O23: the bits of the status word by its fields, and the write to `STATUS` clears two of
them. -/
theorem statusFieldsAndClear : Obligations.StatusFieldsAndClear := by
  refine ⟨fun s m => ⟨statusWord_getLsbD_busy s m, statusWord_getLsbD_mclamp s m⟩, fun s => ?_,
    fun s v q p h => ?_⟩
  · obtain ⟨hiclamp, hsat, hillegal, hfault⟩ := statusWord_flags s
    exact ⟨hiclamp, hsat, hillegal, hfault, statusWord_and_reserved s⟩
  · refine ⟨_, step_registerWrite (r := .status) h (by decide) rfl,
      statusWord_clearSticky (answered s q p (.written false)) v, fun r hr => ?_⟩
    rw [readReg_writeReg_of_ne hr nofun, readReg_answered]

/-- Settles O25, register by register. -/
theorem resetRegisterValues : Obligations.ResetRegisterValues := by
  refine fun c => ⟨fun r => ?_, fun m => ⟨initial_idle c m, dshotOut_of_idle (initial_idle c m)⟩⟩
  cases r with
  | status =>
    have hreset : statusWord State.reset = 0 := by decide
    exact hreset
  | thrust m => exact Quad.get_fill _ m
  | stage m => exact Quad.get_fill _ m
  | lastThr m => simp [readReg, State.initial]
  | lastFrame m => simp [readReg, State.initial]
  | slot m i => simp [readReg, State.initial]
  | _ => rfl

/-- Settles O26: the two changes of `rst`, and the host's turn while it is active. -/
theorem resetHoldsTheBlock : Obligations.ResetHoldsTheBlock := by
  refine ⟨fun s q hvalid hsched => ?_, fun s x q p hvalid hrst hsched hprog => ?_,
    fun s q hvalid hrst hsched => ?_⟩
  · exact ⟨_, step_turn hvalid hsched, rfl, fun m => dshotOut_of_idle (initial_idle s.cfg m)⟩
  · rw [step_turn hvalid hsched]
    exact hostTurn_while_reset (s := s.setSched q) hrst hprog
  · rw [step_turn hvalid hsched, takeTurn, resetLine, State.setSched_rstActive, hrst]
    rfl

end Sys2Proof.Proofs
end

section
/-! PROOFS. The integrator and the zero-error point of the control law (41_control_law.md): the clamp to
±`YAW_I_LIMIT` (R113), the thrusts without error (R120 item 2), and the ramp of the integrator (R120
item 3). -/

namespace Sys2Proof.Machine

/-! ### The clamp of the integrator (R113) -/

/-- With ordered bounds, a clamp that changes its value gives one of the bounds. -/
theorem clamp_eq_bound_of_ne {x lo hi : Int} (hord : lo ≤ hi) (h : clamp x lo hi ≠ x) :
    clamp x lo hi = hi ∨ clamp x lo hi = lo := by
  rcases lt_or_ge x lo with hlow | hlow
  · exact .inr (clamp_of_le_lo hord hlow.le)
  · rcases lt_or_ge hi x with hhigh | hhigh
    · exact .inl (clamp_of_hi_le hhigh.le)
    · exact absurd (clamp_of_mem hlow hhigh) h

theorem integNew_eq_limit_of_ne {s : State} (h : integNew s ≠ (integAcc s).val) :
    integNew s = integLimit s ∨ integNew s = -integLimit s := by
  obtain ⟨hpos, -⟩ := integLimit_bounds s
  exact clamp_eq_bound_of_ne (by omega) h

/-! ### No error, no rate, an empty integrator (R120 item 2) -/

theorem qsub_self_word (w : Word) : qsub (s32 w) (s32 w) = ⟨0, false⟩ := by
  rw [qsub, sub_self]
  rfl

theorem qmul_zero (a : Int) : qmul a 0 = ⟨0, false⟩ := by
  rw [qmul, mul_zero]
  rfl

/-- The registers at which every error and every rate is 0. -/
structure AtSetpoint (g : HostRegs) : Prop where
  roll : g.spRoll = g.estRoll
  pitch : g.spPitch = g.estPitch
  yaw : g.spYaw = g.estYaw
  rollRate : g.estRollRate = 0
  pitchRate : g.estPitchRate = 0
  yawRate : g.estYawRate = 0

/-- `s32` of the word 0, in the spelling of the pseudocode. -/
theorem s32_zero : s32 0 = 0 := rfl

section
variable {s : State} (hs : AtSetpoint s.regs)
include hs

theorem outRoll_of_atSetpoint : (outRoll s).val = 0 := by
  rw [outRoll, propRoll, derivRoll, errRoll, hs.roll, hs.rollRate, qsub_self_word, s32_zero, qmul_zero,
    qmul_zero]
  rfl

theorem outPitch_of_atSetpoint : (outPitch s).val = 0 := by
  rw [outPitch, propPitch, derivPitch, errPitch, hs.pitch, hs.pitchRate, qsub_self_word, s32_zero,
    qmul_zero, qmul_zero]
  rfl

theorem pdYaw_of_atSetpoint : (pdYaw s).val = 0 := by
  rw [pdYaw, propYaw, derivYaw, errYaw, hs.yaw, hs.yawRate, qsub_self_word, s32_zero, qmul_zero,
    qmul_zero]
  rfl

/-- Without a yaw error the integrator keeps 0. -/
theorem integNew_of_atSetpoint (hinteg : s.yawInteg = 0) : integNew s = 0 := by
  have hacc : (integAcc s).val = 0 := by
    rw [integAcc, integStep, errYaw, hs.yaw, hinteg, qsub_self_word, s32_zero, qmul_zero]
    rfl
  obtain ⟨hpos, -⟩ := integLimit_bounds s
  rw [integNew, hacc, clamp_of_mem (by omega) hpos]

/-- Without errors and rates the mixer has nothing to add to the base thrust. -/
theorem motorSum_of_atSetpoint (hinteg : s.yawInteg = 0) (m : Motor) :
    motorSum s m = (baseThrust s).val := by
  have hroll : (deltaRoll s).val = 0 := by rw [deltaRoll, outRoll_of_atSetpoint hs, qmul_zero]
  have hpitch : (deltaPitch s).val = 0 := by rw [deltaPitch, outPitch_of_atSetpoint hs, qmul_zero]
  have hout : (outYaw s).val = 0 := by
    rw [outYaw, pdYaw_of_atSetpoint hs, integNew_of_atSetpoint hs hinteg]
    rfl
  have hyaw : (deltaYaw s).val = 0 := by rw [deltaYaw, hout, qmul_zero]
  have hbase : (mixMatrix.get m).m0 = 1 := by revert m; decide
  simp [motorSum, hroll, hpitch, hyaw, hbase]

end

/-- With ordered bounds whose difference fits, the base thrust lies between them (R115). -/
theorem clamp_baseThrust_of_ordered {s : State} (hord : s32 s.regs.thrustMin ≤ s32 s.regs.thrustMax)
    (hspan : s32 s.regs.thrustMax - s32 s.regs.thrustMin < 2 ^ 31) :
    clamp (baseThrust s).val (s32 s.regs.thrustMin) (s32 s.regs.thrustMax)
      = s32 s.regs.thrustMin
        + clamp (s32 s.regs.baseFrac) 0 0x00010000
          * (s32 s.regs.thrustMax - s32 s.regs.thrustMin) / 2 ^ 16 := by
  obtain ⟨hpart0, hpart1⟩ := thrustPart_bounds hord
  rw [baseThrust_of_ordered hord hspan]
  exact clamp_of_mem (le_add_of_nonneg_right hpart0) (add_le_of_le_sub_left hpart1)

/-! ### The ramp of the integrator (R120 item 3) -/

/-- Adding a contribution `k` to a clamped multiple of `k` and clamping again clamps the next multiple: the
multiples move away from 0 on one side only. -/
theorem clamp_add_clamp_mul {k limit : Int} (hlimit : 0 ≤ limit) (j : Nat) :
    clamp (clamp (j * k) (-limit) limit + k) (-limit) limit
      = clamp ((j + 1 : Nat) * k) (-limit) limit := by
  have hnext : ((j + 1 : Nat) : Int) * k = j * k + k := by push_cast; ring
  rw [hnext]
  rcases le_total 0 k with hk | hk
  · have hside : 0 ≤ (j : Int) * k := mul_nonneg (Int.natCast_nonneg j) hk
    unfold clamp
    omega
  · have hside : (j : Int) * k ≤ 0 := mul_nonpos_of_nonneg_of_nonpos (Int.natCast_nonneg j) hk
    unfold clamp
    omega

/-- One `CTRL_STEP` moves the integrator from the `j`-th clamped multiple of its contribution to the next,
and keeps the registers that the contribution and the limit come from. -/
theorem exec_ctrlStep_ramp {s : State} {k limit : Int} {j : Nat} (hk : (integStep s).val = k)
    (hlimit : integLimit s = limit) (hhi : k + limit < 2 ^ 31) (hlo : -2 ^ 31 ≤ k - limit)
    (hs : s32 s.yawInteg = clamp (j * k) (-limit) limit) :
    ∃ t, exec .ctrlStep s = .next t ∧ (integStep t).val = k ∧ integLimit t = limit
      ∧ s32 t.yawInteg = clamp ((j + 1 : Nat) * k) (-limit) limit := by
  obtain ⟨hpos, -⟩ := integLimit_bounds s
  rw [hlimit] at hpos
  have hclamp : -limit ≤ clamp (j * k) (-limit) limit ∧ clamp (j * k) (-limit) limit ≤ limit :=
    clamp_bounds (by omega)
  have hacc : (integAcc s).val = clamp (j * k) (-limit) limit + k := by
    rw [integAcc, hk, hs, qadd_in_range (by omega) (by omega)]
  refine ⟨_, exec_ctrlStep s, hk, hlimit, ?_⟩
  dsimp only
  rw [s32_u32_integNew, integNew, hacc, hlimit]
  exact clamp_add_clamp_mul hpos j

/-- `n` further invocations take the integrator from the `j`-th multiple to the `j + n`-th. -/
theorem repeat_ctrlStep_ramp {k limit : Int} (hhi : k + limit < 2 ^ 31) (hlo : -2 ^ 31 ≤ k - limit)
    (n : Nat) {s : State} {j : Nat} (hk : (integStep s).val = k) (hlimit : integLimit s = limit)
    (hs : s32 s.yawInteg = clamp (j * k) (-limit) limit) :
    ∃ t, repeatCommand .ctrlStep n s = .next t
      ∧ s32 t.yawInteg = clamp ((j + n : Nat) * k) (-limit) limit := by
  induction n generalizing s j with
  | zero => exact ⟨s, rfl, hs⟩
  | succ n ih =>
    obtain ⟨t, hstep, hk', hlimit', ht⟩ := exec_ctrlStep_ramp hk hlimit hhi hlo hs
    obtain ⟨u, hrepeat, hu⟩ := ih hk' hlimit' ht
    refine ⟨u, ?_, ?_⟩
    · rw [repeatCommand, hstep]
      exact hrepeat
    · rwa [Nat.add_right_comm] at hu

/-! ### `CLR_INTEG` (R119) -/

theorem exec_clrInteg (s : State) :
    exec .clrInteg s = .next { s with yawInteg := 0, iclamp := false } := rfl

end Sys2Proof.Machine

namespace Sys2Proof.Proofs

open Sys2Proof.Machine

/-- Settles O37: 7 is the encoding of `CLR_INTEG`, which is one write. -/
theorem clrIntegEmptiesIntegrator : Obligations.ClrIntegEmptiesIntegrator := by
  have hword : encode .clrInteg = 0x00000007#32 := by decide
  exact ⟨(decode_eq_command_iff _ _).2 hword, exec_clrInteg⟩

/-- Settles O31: the written integrator is the clamp of the accumulated value, and `ICLAMP` says whether
the clamp changed it. -/
theorem integratorStaysWithinLimit : Obligations.IntegratorStaysWithinLimit := by
  refine ⟨fun s => ⟨_, exec_ctrlStep s, ?_⟩, fun s => ⟨_, exec_clrInteg s, rfl⟩⟩
  dsimp only
  rw [s32_readReg_yawILimit, s32_u32_integNew]
  obtain ⟨hlo, hhi⟩ := integNew_bounds s
  refine ⟨hlo, hhi, fun hkept => ?_, fun hclamped => ?_⟩
  · exact not_not.1 (of_decide_eq_false hkept)
  · exact integNew_eq_limit_of_ne (of_decide_eq_true hclamped)

/-- Settles O32: without errors each motor's sum is the base thrust, which ordered bounds do not clamp. -/
theorem zeroErrorGivesBaseThrust : Obligations.ZeroErrorGivesBaseThrust := by
  intro s hroll hpitch hyaw hrollRate hpitchRate hyawRate hinteg
  have hs : AtSetpoint s.regs := ⟨hroll, hpitch, hyaw, hrollRate, hpitchRate, hyawRate⟩
  refine ⟨_, exec_ctrlStep s, ?_, fun m => ?_⟩
  · rw [integNew_of_atSetpoint hs hinteg]
    rfl
  · dsimp only
    rw [Quad.get_ofFn, s32_u32_motorThrust, motorThrust, motorSum_of_atSetpoint hs hinteg]
    exact ⟨rfl, clamp_baseThrust_of_ordered⟩

/-- Settles O35, from the empty integrator as the 0-th multiple. -/
theorem integratorRampsToLimit : Obligations.IntegratorRampsToLimit := by
  intro s n k limit hinteg hhi hlo
  have hlimit : integLimit s = limit := (s32_readReg_yawILimit s).symm
  have hstart : s32 s.yawInteg = clamp ((0 : Nat) * k) (-limit) limit := by
    obtain ⟨hpos, -⟩ := integLimit_bounds s
    rw [hinteg, Nat.cast_zero, zero_mul, clamp_of_mem (by omega) (by omega)]
    rfl
  obtain ⟨t, hrepeat, ht⟩ := repeat_ctrlStep_ramp hhi hlo n rfl hlimit hstart
  rw [Nat.zero_add] at ht
  exact ⟨t, hrepeat, ht⟩

end Sys2Proof.Proofs
end

section
/-! PROOFS. The check and the receiver of a frame (R173), and transmission (43_dshot_encoder.md sections 2 and
3): the start, the start failure and the fault (R167, R172, R202), the frame on the wire (R169, R170),
the two orders without timing (R206), and the commands from reset (R232). -/

namespace Sys2Proof.Machine

/-! ### The check of a frame is linear (R173) -/

/-- The XOR of the four nibbles of a frame. -/
def syndrome (fr : Frame) : BitVec 4 :=
  fr.extractLsb' 0 4 ^^^ checksum (fr.extractLsb' 4 12)

/-- A receiver accepts the frames whose nibbles cancel. -/
theorem frameAccepted_iff (fr : Frame) : frameAccepted fr = true ↔ syndrome fr = 0 := by
  rw [frameAccepted, decide_eq_true_eq, syndrome]
  exact BitVec.xor_eq_zero_iff.symm

theorem checksum_xor (x y : BitVec 12) : checksum (x ^^^ y) = checksum x ^^^ checksum y := by
  simp only [checksum, BitVec.extractLsb'_xor]
  ac_rfl

theorem syndrome_xor (x y : Frame) : syndrome (x ^^^ y) = syndrome x ^^^ syndrome y := by
  simp only [syndrome, BitVec.extractLsb'_xor, checksum_xor]
  ac_rfl

/-- The syndrome of one bit is that bit of its nibble. -/
theorem syndrome_bit (a b : Fin 4) : syndrome (1#16 <<< (4 * a.val + b.val)) = 1#4 <<< b.val := by
  revert a b
  decide

theorem bit_ne_zero (b : Fin 4) : 1#4 <<< b.val ≠ 0 := by
  revert b
  decide

/-- An error keeps an accepted frame accepted exactly when its own nibbles cancel. -/
theorem frameAccepted_xor_iff {fr : Frame} (h : frameAccepted fr = true) (e : Frame) :
    frameAccepted (fr ^^^ e) = true ↔ syndrome e = 0 := by
  rw [frameAccepted_iff] at h
  rw [frameAccepted_iff, syndrome_xor, h]
  exact Iff.of_eq (congrArg (· = 0) (BitVec.zero_xor ..))

/-! ### The receiver (R173) -/

/-- Of the first `n` ticks, those below `v` are `v` or all. -/
theorem countP_lt_range (v n : Nat) : (List.range n).countP (fun t => decide (t < v)) = min v n := by
  induction n with
  | zero => simp
  | succ n ih =>
    rw [List.range_succ, List.countP_append, ih, List.countP_singleton]
    by_cases h : n < v
    · simp [h]; omega
    · simp [h]; omega

/-- The high time of a bit slot is its compare value. -/
theorem highTime_slots {c : Config} (h : configValid c = true) (fr : Frame) {i : SlotIx}
    (hi : i.val < 16) : highTime c (slots c fr) i
      = if fr.getLsbD (15 - i.val) then compareOne c else compareZero c := by
  obtain ⟨-, hlt, hper⟩ := (configValid_iff c).1 h
  simp only [highTime, lineLevel_slots, countP_lt_range, slotValue_toNat_of_valid h fr hi]
  split <;> omega

/-- The receiver finds each slot at `C1` or `C0`, and at `C1` exactly where the frame has a 1. -/
theorem receiveFrame_slots {c : Config} (h : configValid c = true) (fr : Frame) :
    receiveFrame c (highTime c (slots c fr)) = some fr := by
  obtain ⟨-, hlt, -⟩ := (configValid_iff c).1 h
  have hhigh (i : Nat) (hi : i < 16) : highTime c (slots c fr) (Fin.ofNat 17 i)
      = if fr.getLsbD (15 - i) then compareOne c else compareZero c := by
    have hval : (Fin.ofNat 17 i).val = i := Nat.mod_eq_of_lt (by omega)
    have hslot := highTime_slots h fr (i := Fin.ofNat 17 i) (by omega)
    rwa [hval] at hslot
  rw [receiveFrame, if_pos]
  · congr 1
    apply BitVec.eq_of_getLsbD_eq
    intro j hj
    rw [BitVec.getLsbD_ofFnLE, dif_pos hj]
    dsimp only
    rw [hhigh (15 - j) (by omega), show 15 - (15 - j) = j by omega]
    cases fr.getLsbD j with
    | true => simp
    | false => simp; omega
  · intro i
    rw [hhigh i.val i.isLt]
    split
    · exact .inl rfl
    · exact .inr rfl

/-! ### The three outcomes of a command that transmits (R167, R172, R202) -/

theorem transmit_of_fault {s : State} (h : s.fault = true) : transmit s = s := by
  rw [transmit, if_pos h]

theorem transmit_of_busy {s : State} {m : Motor} (hfault : s.fault = false) (h : busyChannel s m) :
    transmit s = { s with fault := true } := by
  have hbusy : anyBusy s = true := (anyBusy_iff s).2 ⟨m, h⟩
  rw [transmit, hfault, hbusy]
  rfl

theorem anyBusy_eq_false_of_idle {s : State} (h : ∀ m : Motor, s.chan.get m = .idle) :
    anyBusy s = false := by
  refine Bool.eq_false_iff.2 fun hbusy => ?_
  obtain ⟨m, hm⟩ := (anyBusy_iff s).1 hbusy
  rw [h m] at hm
  cases hm

theorem transmit_of_idle {s : State} (hfault : s.fault = false)
    (h : ∀ m : Motor, s.chan.get m = .idle) : transmit s = sendFrames s := by
  rw [transmit, hfault, anyBusy_eq_false_of_idle h]
  rfl

/-- What a successful start leaves on each channel (R167). -/
theorem sendFrames_channel (s : State) (m : Motor) :
    (sendFrames s).lastThr.get m = throttle (s.thrust.get m)
      ∧ (sendFrames s).lastFrame.get m = dshotFrame s.cfg.tlm (throttle (s.thrust.get m))
      ∧ (sendFrames s).slotBuf.get m
          = slots s.cfg (dshotFrame s.cfg.tlm (throttle (s.thrust.get m)))
      ∧ (sendFrames s).chan.get m = .playing 0 0 := by
  simp [sendFrames, frames, throttles, startedChannel]

/-- The host's write of `UPDATE`'s or `UPDATE_ALL`'s word transmits (R168). -/
theorem step_transmit {w : Word} {q : List Turn} {p : List HostOp} {s : State}
    (h : transactionNext (commandTxn w) q p s) (hw : w = 0x00000005#32 ∨ w = 0x00000006#32) :
    step s = .next (transmit (answered s q p (.written false))) := by
  have hupdate : encode .update = 0x00000005#32 := by decide
  have hupdateAll : encode .updateAll = 0x00000006#32 := by decide
  rcases hw with rfl | rfl
  · exact step_command h ((decode_eq_command_iff _ _).2 hupdate)
  · exact step_command h ((decode_eq_command_iff _ _).2 hupdateAll)

/-- A successful start by the host's write: the engines stand at tick 0 of slot 0, and the buffers hold the
frames of the thrusts (R167). -/
theorem step_start {w : Word} {q : List Turn} {p : List HostOp} {s : State}
    (h : transactionNext (commandTxn w) q p s) (hw : w = 0x00000005#32 ∨ w = 0x00000006#32)
    (hfault : s.fault = false) (hidle : ∀ m : Motor, s.chan.get m = .idle) :
    ∃ t, step s = .next t ∧ t.cfg = s.cfg ∧ t.sched = q ∧ t.fault = false
      ∧ t.chan = Quad.fill startedChannel
      ∧ ∀ m : Motor, t.slotBuf.get m
          = slots s.cfg (dshotFrame s.cfg.tlm (throttle (s.thrust.get m))) := by
  have hstep := step_transmit h hw
  rw [transmit_of_idle (s := answered s q p (.written false)) hfault hidle] at hstep
  refine ⟨_, hstep, rfl, rfl, hfault, rfl, fun m => ?_⟩
  obtain ⟨-, -, hbuf, -⟩ := sendFrames_channel (answered s q p (.written false)) m
  exact hbuf

/-! ### A frame on the wire (R169, R170) -/

/-- The engine `n` cycles after its start (R169). -/
def channelAt (c : Config) (n : Nat) : Channel :=
  if n < 17 * c.period.toNat then
    .playing (Fin.ofNat 17 (n / c.period.toNat)) (n % c.period.toNat)
  else .idle

theorem channelAt_zero {c : Config} (hpos : 0 < c.period.toNat) :
    channelAt c 0 = startedChannel := by
  rw [channelAt, if_pos (by omega), Nat.zero_div, Nat.zero_mod]
  rfl

/-- The engine during tick `k` of slot `i`. -/
theorem channelAt_slot {c : Config} {i k : Nat} (hi : i < 17) (hk : k < c.period.toNat) :
    channelAt c (c.period.toNat * i + k) = .playing (Fin.ofNat 17 i) k := by
  have hlast : c.period.toNat * (i + 1) ≤ c.period.toNat * 17 := Nat.mul_le_mul_left _ hi
  have hdiv : (c.period.toNat * i + k) / c.period.toNat = i := by
    rw [Nat.mul_add_div (by omega), Nat.div_eq_of_lt hk, Nat.add_zero]
  rw [channelAt, if_pos (by rw [Nat.mul_succ] at hlast; omega), hdiv, Nat.mul_add_mod,
    Nat.mod_eq_of_lt hk]

/-- One tick takes the engine from cycle `n` to cycle `n + 1`. -/
theorem channelTick_channelAt {c : Config} (hpos : 0 < c.period.toNat) (n : Nat) :
    channelTick c (channelAt c n) = channelAt c (n + 1) := by
  by_cases hn : n < 17 * c.period.toNat
  · have hslot : n / c.period.toNat < 17 := (Nat.div_lt_iff_lt_mul hpos).2 hn
    have htick : n % c.period.toNat < c.period.toNat := Nat.mod_lt n hpos
    have hsplit := Nat.div_add_mod n c.period.toNat
    generalize n / c.period.toNat = i at *
    generalize n % c.period.toNat = k at *
    subst hsplit
    rw [channelAt_slot hslot htick, channelTick]
    split
    · next hlt => exact (channelAt_slot hslot hlt).symm
    · next hlt =>
      have hcarry : c.period.toNat * i + k + 1 = c.period.toNat * (i + 1) + 0 := by
        rw [Nat.mul_succ]; omega
      have hval : (Fin.ofNat 17 i).val = i := Nat.mod_eq_of_lt hslot
      rw [hcarry, hval]
      split
      · next hi => exact (channelAt_slot (by omega) hpos).symm
      · next hi =>
        have hend : i + 1 = 17 := by omega
        rw [hend, channelAt, if_neg (by omega)]
  · rw [channelAt, if_neg hn, channelAt, if_neg (by omega)]
    rfl

/-- A run begins with its first step. -/
theorem coreRun_succ {M : Host.Core} {s t : M.State} (h : M.step s = .next t) (n : Nat) :
    M.run (n + 1) s = M.run n t := by
  rw [Host.Core.run, h]

theorem run_succ {s t : State} (h : step s = .next t) (n : Nat) :
    Host.Core.run Sys2Proof.core (n + 1) s = Host.Core.run Sys2Proof.core n t :=
  coreRun_succ (M := Sys2Proof.core) h n

/-- With nothing scheduled and every engine at cycle `k` after its start, `n` steps take every engine to
cycle `k + n` and change nothing else. -/
theorem run_clock (n : Nat) {s : State} {k : Nat} (hvalid : configValid s.cfg = true)
    (htimed : s.cfg.timed = true) (hsched : s.sched = [])
    (hchan : s.chan = Quad.fill (channelAt s.cfg k)) :
    Host.Core.run Sys2Proof.core n s
      = .next (s.setChan (Quad.fill (channelAt s.cfg (k + n)))) := by
  induction n generalizing s k with
  | zero => rw [Nat.add_zero, ← hchan]; rfl
  | succ n ih =>
    have hpos : 0 < s.cfg.period.toNat := period_pos_of_valid hvalid
    have hstep : step s = .next (s.setChan (Quad.fill (channelAt s.cfg (k + 1)))) := by
      rw [step_unscheduled hvalid hsched, clockCycle, if_pos htimed, hchan,
        ← channelTick_channelAt hpos]
      rfl
    have hrest := ih (s := s.setChan (Quad.fill (channelAt s.cfg (k + 1)))) hvalid htimed hsched rfl
    rw [Nat.add_right_comm] at hrest
    exact (run_succ hstep n).trans hrest

/-- The output of a channel at cycle `n`, from a buffer that holds a frame (R170, R238). -/
theorem dshotOut_channelAt {s : State} {m : Motor} {fr : Frame} {n : Nat}
    (htimed : s.cfg.timed = true) (hbuf : s.slotBuf.get m = slots s.cfg fr)
    (hchan : s.chan.get m = channelAt s.cfg n) :
    (n < 17 * s.cfg.period.toNat →
      ∃ i : SlotIx, i.val = n / s.cfg.period.toNat
        ∧ s.chan.get m = .playing i (n % s.cfg.period.toNat)
        ∧ dshotOut s m = some (decide
            (n % s.cfg.period.toNat < (slotValue s.cfg fr i.val).toNat)))
      ∧ (17 * s.cfg.period.toNat ≤ n → s.chan.get m = .idle ∧ dshotOut s m = some false) := by
  refine ⟨fun hn => ?_, fun hn => ?_⟩
  · rw [channelAt, if_pos hn] at hchan
    have hslot : n / s.cfg.period.toNat < 17 := Nat.div_lt_of_lt_mul (by rwa [Nat.mul_comm] at hn)
    refine ⟨_, Nat.mod_eq_of_lt hslot, hchan, ?_⟩
    rw [dshotOut, hchan, hbuf]
    dsimp only
    rw [if_pos htimed, lineLevel_slots]
  · rw [channelAt, if_neg (not_lt.2 hn)] at hchan
    exact ⟨hchan, dshotOut_of_idle hchan⟩

/-! ### Finish steps without timing (R169, R206) -/

theorem step_finish {m : Motor} {q : List Turn} {s : State} (hvalid : configValid s.cfg = true)
    (huntimed : s.cfg.timed = false) (hsched : s.sched = .finish m :: q) :
    step s = .next ((s.setSched q).setChan (s.chan.set m .idle)) := by
  rw [step_turn hvalid hsched, takeTurn, finishChannel, State.setSched_cfg, huntimed]
  rfl

/-- Finish steps make their channels idle, in any order, and change nothing else. -/
theorem run_finishes (ms : List Motor) {q : List Turn} {s : State} (hvalid : configValid s.cfg = true)
    (huntimed : s.cfg.timed = false) (hsched : s.sched = ms.map .finish ++ q) (n : Nat) :
    Host.Core.run Sys2Proof.core (n + ms.length) s = Host.Core.run Sys2Proof.core n
      ((s.setSched q).setChan (ms.foldl (fun c m => c.set m .idle) s.chan)) := by
  induction ms generalizing s with
  | nil =>
    have hsame : s.sched = q := hsched
    subst hsame
    rfl
  | cons m ms ih =>
    exact (run_succ (step_finish hvalid huntimed hsched) (n + ms.length)).trans
      (ih (s := (s.setSched (ms.map .finish ++ q)).setChan (s.chan.set m .idle)) hvalid huntimed rfl)

/-! ### The commands from reset (R232, R120 item 4) -/

theorem stagedThrust_initial (c : Config) (m : Motor) : stagedThrust (State.initial c) m = 0 := by
  have hstage : (State.initial c).regs.stage.get m = 0 := Quad.get_fill _ m
  rw [stagedThrust, hstage]
  rfl

theorem stagedClamped_initial (c : Config) (m : Motor) :
    stagedClamped (State.initial c) m = false := by
  have hstage : (State.initial c).regs.stage.get m = 0 := Quad.get_fill _ m
  rw [stagedClamped, stagedThrust_initial, hstage]
  rfl

/-- What `CTRL_STEP` computes is a function of the host's registers and the integrator (R110). -/
theorem ctrlStep_congr {s t : State} (hregs : s.regs = t.regs) (hinteg : s.yawInteg = t.yawInteg) :
    integNew s = integNew t ∧ integAcc s = integAcc t ∧ motorThrust s = motorThrust t
      ∧ motorSum s = motorSum t ∧ satFlag s = satFlag t := by
  have hacc : integAcc s = integAcc t := by
    simp only [integAcc, integStep, errYaw, hregs, hinteg]
  have hnew : integNew s = integNew t := by simp only [integNew, integLimit, hregs, hacc]
  have hyaw : outYaw s = outYaw t := by
    simp only [outYaw, pdYaw, propYaw, derivYaw, errYaw, hregs, hnew]
  have hbase : baseThrust s = baseThrust t := by
    simp only [baseThrust, thrustAbove, thrustSpan, baseFraction, hregs]
  refine ⟨hnew, hacc, funext (motorThrust_congr hregs hinteg), funext fun m => ?_, ?_⟩
  · simp only [motorSum, deltaRoll, deltaPitch, deltaYaw, outRoll, outPitch, propRoll, propPitch,
      derivRoll, derivPitch, errRoll, errPitch, hregs, hyaw, hbase]
  · simp only [satFlag_eq_or, deltaRoll, deltaPitch, deltaYaw, outRoll, outPitch, propRoll, propPitch,
      propYaw, derivRoll, derivPitch, derivYaw, pdYaw, errRoll, errPitch, errYaw, integStep, thrustSpan,
      thrustAbove, baseFraction, hregs, hacc, hyaw, hbase]

/-- At reset, where every register is 0, `CTRL_STEP` computes 0 everywhere and saturates nowhere. -/
theorem ctrlStep_reset_values :
    u32 (integNew State.reset) = 0
      ∧ (Quad.ofFn fun m => u32 (motorThrust State.reset m)) = Quad.fill 0
      ∧ (Quad.ofFn fun m => decide (motorThrust State.reset m ≠ motorSum State.reset m))
          = Quad.fill false
      ∧ decide (integNew State.reset ≠ (integAcc State.reset).val) = false
      ∧ satFlag State.reset = false := by
  decide

theorem exec_ctrlStep_initial (c : Config) :
    exec .ctrlStep (State.initial c) = .next (State.initial c) := by
  obtain ⟨hnew, hacc, hthrust, hsum, hflag⟩ :=
    ctrlStep_congr (s := State.initial c) (t := State.reset) rfl rfl
  obtain ⟨hinteg, hpublished, hmclamp, hiclamp, hsat⟩ := ctrlStep_reset_values
  rw [exec_ctrlStep, hnew, hacc, hthrust, hsum, hflag, hinteg, hpublished, hmclamp, hiclamp, hsat]
  rfl

end Sys2Proof.Machine

namespace Sys2Proof.Proofs

open Sys2Proof.Machine

/-- Settles O44: one bit's syndrome is not 0, and two bits at one position of two nibbles cancel. -/
theorem singleBitErrorsAreDetected : Obligations.SingleBitErrorsAreDetected := by
  refine ⟨fun fr k h => ?_, fun fr b a c h _ => ?_⟩
  · have hbit := syndrome_bit ⟨k.val / 4, by omega⟩ ⟨k.val % 4, by omega⟩
    dsimp only at hbit
    rw [Nat.div_add_mod] at hbit
    refine Bool.eq_false_iff.2 fun haccepted => bit_ne_zero ⟨k.val % 4, by omega⟩ ?_
    rw [← hbit]
    exact (frameAccepted_xor_iff h _).1 haccepted
  · rw [BitVec.xor_assoc, frameAccepted_xor_iff h, syndrome_xor, syndrome_bit, syndrome_bit]
    exact BitVec.xor_self

/-- Settles O45: each bit slot is high for its compare value, and the two compare values differ. -/
theorem receiverRecoversFrame : Obligations.ReceiverRecoversFrame :=
  fun _ fr h => receiveFrame_slots h fr

/-- Settles O47: both commands start the frames, channel by channel. -/
theorem updateStartsAllChannels : Obligations.UpdateStartsAllChannels := by
  intro s hfault hidle
  have hsend : transmit s = sendFrames s := transmit_of_idle hfault hidle
  refine ⟨sendFrames s, ?_, ?_, sendFrames_channel s, rfl⟩
  · rw [exec_update, hsend]
  · rw [exec_updateAll, hsend]

/-- Settles O48: a busy channel makes the start a failure. -/
theorem updateWhileBusyIsStartFailure : Obligations.UpdateWhileBusyIsStartFailure := by
  intro s m hfault hbusy
  rw [exec_update, exec_updateAll, transmit_of_busy hfault hbusy]
  exact ⟨rfl, rfl⟩

/-- Settles O49: after a fault neither command does anything. -/
theorem updateAfterFaultHasNoEffect : Obligations.UpdateAfterFaultHasNoEffect := by
  intro s hfault
  rw [exec_update, exec_updateAll, transmit_of_fault hfault]
  exact ⟨rfl, rfl⟩

/-- Settles O51: the start puts every engine at cycle 0 with its frame's buffer, and every step after it is
one cycle. -/
theorem updatePutsFrameOnTheWire : Obligations.UpdatePutsFrameOnTheWire := by
  intro s w p n hnext hw htimed hfault hidle
  have hvalid : configValid s.cfg = true := hnext.1
  obtain ⟨u, hstep, hcfg, hsched, -, hchan, hbuf⟩ := step_start hnext hw hfault hidle
  rw [← hcfg] at hvalid htimed hbuf ⊢
  rw [← channelAt_zero (period_pos_of_valid hvalid)] at hchan
  have hrun := run_clock n hvalid htimed hsched hchan
  rw [Nat.zero_add] at hrun
  exact ⟨_, (run_succ hstep n).trans hrun, fun m =>
    dshotOut_channelAt (s := u.setChan (Quad.fill (channelAt u.cfg n))) htimed (hbuf m)
      (Quad.get_fill _ m)⟩

/-- Settles O52: before the finish steps the busy channel makes the start a failure, after them every channel
is idle and the start succeeds. -/
theorem untimedUpdateAdmitsBothOutcomes : Obligations.UntimedUpdateAdmitsBothOutcomes := by
  intro s m p q hvalid huntimed hrst hfault hbusy hprog
  refine ⟨fun hsched => ?_, fun hsched => ?_⟩
  · have hstep := step_transmit (q := q) ⟨hvalid, hrst, hsched, hprog⟩ (.inl rfl)
    rw [transmit_of_busy (s := answered s q p (.written false)) hfault hbusy] at hstep
    exact ⟨_, hstep, rfl, rfl⟩
  · obtain ⟨t, hstep, -, -, hfault', hchan, -⟩ :=
      step_start (s := (s.setSched (.host :: q)).setChan (Quad.fill .idle)) (q := q)
        ⟨hvalid, hrst, rfl, hprog⟩ (.inl rfl) hfault (Quad.get_fill Channel.idle)
    refine ⟨t, (run_finishes [0, 1, 2, 3] hvalid huntimed hsched 1).trans (run_succ hstep 0), hfault', fun n => ?_⟩
    rw [hchan, Quad.get_fill]
    rfl

/-- Settles O36: at reset the staged values, the errors and the bounds are 0, so every command publishes what
stands there, and a start sends the throttle of thrust 0. -/
theorem commandsAreSafeFromReset : Obligations.CommandsAreSafeFromReset := by
  intro c
  have hsend : transmit (State.initial c) = sendFrames (State.initial c) :=
    transmit_of_idle rfl (initial_idle c)
  refine ⟨exec_ctrlStep_initial c, ?_, fun m => ?_, rfl, rfl, rfl, sendFrames (State.initial c), ?_, ?_,
    rfl, fun m => ?_⟩
  · rw [exec_setThrust]
    simp only [stagedThrust_initial, stagedClamped_initial]
    rfl
  · rw [exec_setMotor, stagedThrust_initial, stagedClamped_initial]
    fin_cases m <;> rfl
  · rw [exec_update, hsend]
  · rw [exec_updateAll, hsend]
  · obtain ⟨hthr, hframe, -, hchan⟩ := sendFrames_channel (State.initial c) m
    have hthrust : throttle ((State.initial c).thrust.get m) = 0 :=
      (congrArg throttle (Quad.get_fill _ m)).trans (by decide)
    rw [hthr, hframe, hchan, hthrust]
    exact ⟨rfl, rfl, rfl⟩

end Sys2Proof.Proofs
end

section
/-! PROOFS. The frame of each command over the registers (R33, R41, R71, R100), and the host's program: the
lines and literals (R85), the pseudo-instructions and `wait_idle` (R86). -/

namespace Sys2Proof.Machine

/-! ### What each update of a command leaves of the registers (R22) -/

theorem readReg_setIntegrator {r : Reg} (hstatus : r ≠ .status) (hinteg : r ≠ .yawInteg) (s : State)
    (i : Word) (c : Bool) : readReg (s.setIntegrator i c) r = readReg s r := by
  cases r
  case status => contradiction
  case yawInteg => contradiction
  all_goals rfl

theorem readReg_publish_thrust (s : State) (q : Quad Word) (c : Quad Bool) (m : Motor) :
    readReg (s.publish q c) (.thrust m) = q.get m := rfl

theorem readReg_publish {r : Reg} (hstatus : r ≠ .status) (hthrust : ∀ m, r ≠ .thrust m) (s : State)
    (q : Quad Word) (c : Quad Bool) : readReg (s.publish q c) r = readReg s r := by
  cases r
  case status => contradiction
  case thrust m => exact absurd rfl (hthrust m)
  all_goals rfl

theorem readReg_raiseSat {r : Reg} (hstatus : r ≠ .status) (s : State) (b : Bool) :
    readReg (s.raiseSat b) r = readReg s r := by
  cases r
  case status => contradiction
  all_goals rfl

/-- The registers that hold a buffer or a read-back (R39 to R41). -/
def isSendRegister : Reg → Bool
  | .lastThr _ => true
  | .lastFrame _ => true
  | .slot _ _ => true
  | _ => false

theorem readReg_transmit {r : Reg} (hstatus : r ≠ .status) (hsend : isSendRegister r = false)
    (s : State) : readReg (transmit s) r = readReg s r := by
  rcases transmit_effect s with ⟨f, heq⟩ | ⟨-, -, heq⟩
  all_goals
    rw [heq]
    cases r
    case status => contradiction
    case lastThr m => cases hsend
    case lastFrame m => cases hsend
    case slot m i => cases hsend
    all_goals rfl

/-! ### Literals (R85) -/

/-- A quotient without remainder lies in a range exactly when its numerator lies in the multiple of the
range. -/
theorem ediv_bounds_iff {n d lo hi : Int} (hd : 0 < d) (hdvd : d ∣ n) :
    (lo ≤ n / d ∧ n / d ≤ hi) ↔ (lo * d ≤ n ∧ n ≤ hi * d) := by
  obtain ⟨k, rfl⟩ := hdvd
  rw [Int.mul_ediv_cancel_left k hd.ne', Int.mul_comm d k, Int.mul_le_mul_iff_of_pos_right hd,
    Int.mul_le_mul_iff_of_pos_right hd]

/-- A literal is well-formed when its value is a multiple of 2^-16 in the range of R9. -/
theorem wf_q_iff (x : Int) (d : Nat) :
    (Value.q x d).wf = true ↔ d ≠ 0 ∧ (d : Int) ∣ x * 2 ^ 16 ∧ -2 ^ 31 * d ≤ x * 2 ^ 16
      ∧ x * 2 ^ 16 ≤ (2 ^ 31 - 1) * d := by
  have hscale : x * 65536 = x * 2 ^ 16 := rfl
  simp only [Value.wf, Bool.and_eq_true, decide_eq_true_eq, and_assoc, hscale,
    ← Int.dvd_iff_emod_eq_zero]
  refine and_congr_right fun hd => and_congr_right fun hdvd => ?_
  exact ediv_bounds_iff (lo := -2 ^ 31) (hi := 2 ^ 31 - 1) (by omega) hdvd

/-- A well-formed literal's word is the value times 2^16. -/
theorem s32_valueRaw_q {x : Int} {d : Nat} (h : (Value.q x d).wf = true) :
    s32 (valueRaw (.q x d)) * d = x * 2 ^ 16 := by
  obtain ⟨hd, hdvd, hlo, hhi⟩ := (wf_q_iff x d).1 h
  obtain ⟨hlo', hhi'⟩ := (ediv_bounds_iff (by omega) hdvd).2 ⟨hlo, hhi⟩
  have hval : s32 (valueRaw (.q x d)) = x * 2 ^ 16 / d := s32_u32 hlo' hhi'
  rw [hval, Int.ediv_mul_cancel hdvd]

theorem assembleLine_wr_of_wf {v : Value} (h : v.wf = true) (r : Reg) :
    assembleLine (.wr r v) = some [wrOp r (valueRaw v)] :=
  if_pos h

theorem assembleLine_wr_eq_none_iff (r : Reg) (v : Value) :
    assembleLine (.wr r v) = none ↔ v.wf ≠ true := by
  rw [assembleLine, expandLine, ite_eq_right_iff]
  simp [HostLine.wf]

/-! ### `wait_idle` (R86) -/

theorem nibble_eq_zero_iff (f : Quad Bool) : f.nibble = 0 ↔ f.any = false := by
  obtain ⟨a, b, c, d⟩ := f
  revert a b c d
  decide

/-- Bits [3:0] of `STATUS` are 0 exactly when no channel is busy (R24). -/
theorem status_low_eq_zero_iff (s : State) :
    (readReg s .status).extractLsb' 0 4 = 0 ↔ anyBusy s = false := by
  have hlow : (readReg s .status).extractLsb' 0 4 = (busyFlags s).nibble :=
    BitVec.extractLsb'_append_eq_right
  rw [hlow, nibble_eq_zero_iff, anyBusy]

/-- The host's turn with the loop of `wait_idle`. -/
theorem step_poll {q : List Turn} {p : List HostOp} {s : State} (hvalid : configValid s.cfg = true)
    (hrst : s.rstActive = false) (hsched : s.sched = .host :: q) (hprog : s.prog = .pollIdle :: p) :
    step s = .next (pollStatus p (s.setSched q)) := by
  rw [step_turn hvalid hsched, takeTurn, hostTurn, State.setSched_prog, hprog,
    State.setSched_rstActive, hrst]
  rfl

/-- One poll reads `STATUS`; the loop stays the next operation exactly while some channel is busy. -/
theorem pollStatus_eq (p : List HostOp) (s : State) :
    pollStatus p s = { s with
      prog := if anyBusy s then s.prog else p
      resp := .read (readReg s .status) false } := by
  rcases pollStatus_cases p s with ⟨hlow, heq⟩ | ⟨hlow, heq⟩
  · have hany : anyBusy s = false := (status_low_eq_zero_iff s).1 hlow
    rw [heq, hany]
    rfl
  · have hany : anyBusy s = true :=
      Bool.eq_true_of_not_eq_false (mt (status_low_eq_zero_iff s).2 hlow)
    rw [heq, hany]
    rfl

end Sys2Proof.Machine

namespace Sys2Proof.Proofs

open Sys2Proof.Machine

/-- Settles O54, command by command: each is one or more updates that leave the registers its rule does not
name. -/
theorem commandsWriteOnlyNamedRegisters : Obligations.CommandsWriteOnlyNamedRegisters := by
  intro i s t r hexec hstatus hnamed
  cases i with
  | nop => cases hexec; rfl
  | ctrlStep =>
    have hinteg : r ≠ .yawInteg := by rintro rfl; exact hnamed
    have hthrust (m : Motor) : r ≠ .thrust m := by rintro rfl; exact hnamed
    cases hexec
    rw [readReg_raiseSat hstatus, readReg_publish hstatus hthrust,
      readReg_setIntegrator hstatus hinteg]
  | setThrust =>
    have hthrust (m : Motor) : r ≠ .thrust m := by rintro rfl; exact hnamed
    cases hexec
    rw [readReg_publish hstatus hthrust]
  | setMotor m =>
    cases hexec
    by_cases hr : ∃ n, r = .thrust n
    · obtain ⟨n, rfl⟩ := hr
      rw [readReg_publish_thrust, Quad.get_set, if_neg hnamed]
      rfl
    · exact readReg_publish hstatus (fun n hn => hr ⟨n, hn⟩) ..
  | zeroThrust =>
    have hthrust (m : Motor) : r ≠ .thrust m := by rintro rfl; exact hnamed
    cases hexec
    rw [readReg_publish hstatus hthrust]
  | update =>
    have hsend : isSendRegister r = false := by cases r <;> trivial
    cases hexec
    exact readReg_transmit hstatus hsend s
  | updateAll =>
    have hsend : isSendRegister r = false := by cases r <;> trivial
    cases hexec
    exact readReg_transmit hstatus hsend s
  | clrInteg =>
    have hinteg : r ≠ .yawInteg := by rintro rfl; exact hnamed
    cases hexec
    exact readReg_setIntegrator hstatus hinteg ..

/-- Settles O55: the lines without a fraction assemble by definition, and one with a fraction exactly when
the fraction is a Q16.16 number. -/
theorem hostLinesAssemble : Obligations.HostLinesAssemble := by
  refine ⟨fun _ _ => rfl, fun _ => ⟨0, rfl⟩, fun _ => rfl, by decide, by decide, by decide,
    fun r x d => ⟨?_, fun hd hdvd hlo hhi => ?_⟩⟩
  · rw [assembleLine_wr_eq_none_iff, ne_eq, wf_q_iff]
    simp only [not_and_or, not_not, not_le]
  · have hwf : (Value.q x d).wf = true := (wf_q_iff x d).2 ⟨hd, hdvd, hlo, hhi⟩
    exact ⟨_, s32_valueRaw_q hwf, assembleLine_wr_of_wf hwf r⟩

/-- Settles O56: the expansions are R86's, and the poll's branch is whether some channel is busy. -/
theorem pseudoInstructionsExpand : Obligations.PseudoInstructionsExpand := by
  refine ⟨fun _ _ _ _ => rfl, fun _ _ => rfl, rfl, rfl, rfl, fun s q p hvalid hrst hsched hprog =>
    ⟨fun hidle => ?_, fun ⟨m, hbusy⟩ => ?_⟩⟩
  · have hany : anyBusy (s.setSched q) = false := anyBusy_eq_false_of_idle hidle
    rw [step_poll hvalid hrst hsched hprog, pollStatus_eq, hany]
    rfl
  · have hany : anyBusy (s.setSched q) = true := (anyBusy_iff _).2 ⟨m, hbusy⟩
    rw [step_poll hvalid hrst hsched hprog, pollStatus_eq, hany, State.setSched_prog, hprog]
    rfl

end Sys2Proof.Proofs
end
